-- ==== Sys2Proof/Word.lean ====
section
/-! DEFINITION. The two word widths of RBHE (spec/00_scope.md R6, R8): a byte of the wire or of PMEM, and a
32-bit register or bus word. All values are unsigned (R8), so no signed reading is ever defined. -/

namespace Sys2Proof

/-- A byte on the wire, in a marker, or in PMEM: 8 bits (R6 "wire byte width"). -/
abbrev Byte := BitVec 8

/-- A register or bus data word: 32 bits (R6 "register data width"). -/
abbrev Word := BitVec 32

end Sys2Proof
end

