-- ==== Sys2Proof/Syntax.lean ====
section
/-! DEFINITION. The operations of RBHE, one constructor per row of spec/opcode_table.json (spec/30_encoding.md R83,
R84). RBHE fetches no instruction (00_scope.md R19): a BUS row is one host register transaction of a cycle, a STEP
row is what the engine does in a cycle, selected by its own state.

A BUS row carries DATA, bits 31:0 of its 41-bit word (R80), also where the row ignores it ("write data; ignored for a
read"), so that a word and its row hold the same bits; the two reserved rows carry their offset too (R81). A STEP row
has no operand: its word is {DRAIN, STATE}. -/

namespace Sys2Proof

/-- The 48 rows of the opcode table. -/
inductive Instr where
  /-- R210: RD_ID, offset 0x00. -/
  | rdId (data : Word)
  /-- R211: RD_CTRL, offset 0x04. -/
  | rdCtrl (data : Word)
  /-- R213: RD_STATUS, offset 0x08. -/
  | rdStatus (data : Word)
  /-- R216: RD_MODE, offset 0x0C. -/
  | rdMode (data : Word)
  /-- R218: RD_PAYLOAD_LEN, offset 0x10. -/
  | rdPayloadLen (data : Word)
  /-- R220: RD_DEADLINE, offset 0x14. -/
  | rdDeadline (data : Word)
  /-- R224: RD_PMEM_ADDR, offset 0x18. -/
  | rdPmemAddr (data : Word)
  /-- R222: RD_PMEM_DATA, offset 0x1C. -/
  | rdPmemData (data : Word)
  /-- R226: RD_SCAN_COUNT, offset 0x20. -/
  | rdScanCount (data : Word)
  /-- R227: RD_TX_COUNT, offset 0x24. -/
  | rdTxCount (data : Word)
  /-- R214: RD_EVENTS, offset 0x28. -/
  | rdEvents (data : Word)
  /-- R228: RD_IRQ_EN, offset 0x2C. -/
  | rdIrqEn (data : Word)
  /-- R231: RD_PAYLOAD_CAP, offset 0x30. -/
  | rdPayloadCap (data : Word)
  /-- R232: RD_MARKER_INFO, offset 0x34. -/
  | rdMarkerInfo (data : Word)
  /-- R233: RD_STAGE_CYCLES, offset 0x38. -/
  | rdStageCycles (data : Word)
  /-- R230: WR_ID, offset 0x00. -/
  | wrId (data : Word)
  /-- R212: WR_CTRL, offset 0x04. -/
  | wrCtrl (data : Word)
  /-- R230: WR_STATUS, offset 0x08. -/
  | wrStatus (data : Word)
  /-- R217: WR_MODE, offset 0x0C. -/
  | wrMode (data : Word)
  /-- R219: WR_PAYLOAD_LEN, offset 0x10. -/
  | wrPayloadLen (data : Word)
  /-- R221: WR_DEADLINE, offset 0x14. -/
  | wrDeadline (data : Word)
  /-- R225: WR_PMEM_ADDR, offset 0x18. -/
  | wrPmemAddr (data : Word)
  /-- R223: WR_PMEM_DATA, offset 0x1C. -/
  | wrPmemData (data : Word)
  /-- R230: WR_SCAN_COUNT, offset 0x20. -/
  | wrScanCount (data : Word)
  /-- R230: WR_TX_COUNT, offset 0x24. -/
  | wrTxCount (data : Word)
  /-- R215: WR_EVENTS, offset 0x28. -/
  | wrEvents (data : Word)
  /-- R229: WR_IRQ_EN, offset 0x2C. -/
  | wrIrqEn (data : Word)
  /-- R230: WR_PAYLOAD_CAP, offset 0x30. -/
  | wrPayloadCap (data : Word)
  /-- R230: WR_MARKER_INFO, offset 0x34. -/
  | wrMarkerInfo (data : Word)
  /-- R230: WR_STAGE_CYCLES, offset 0x38. -/
  | wrStageCycles (data : Word)
  /-- R234: RD_RSVD, at a reserved or misaligned offset. -/
  | rdRsvd (off : BitVec 8) (data : Word)
  /-- R235: WR_RSVD, at a reserved or misaligned offset. -/
  | wrRsvd (off : BitVec 8) (data : Word)
  /-- R181: STEP_INIT, selector 0000. -/
  | stepInit
  /-- R131: STEP_AWAIT_READY, selector 0001. -/
  | stepAwaitReady
  /-- R132: STEP_AWAIT_TRIGGER, selector 0010. -/
  | stepAwaitTrigger
  /-- R151: STEP_SEND_LENGTH, selector 0011. -/
  | stepSendLength
  /-- R133: STEP_AWAIT_ACK, selector 0100. -/
  | stepAwaitAck
  /-- R154: STEP_SEND_BODY, selector 0101. -/
  | stepSendBody
  /-- R185: STEP_DONE, selector 0110. -/
  | stepDone
  /-- R186: STEP_ERROR, selector 0111. -/
  | stepError
  /-- R152: STEP_DRAIN_LENGTH, selector 1011. -/
  | stepDrainLength
  /-- R155: STEP_DRAIN_BODY, selector 1101. -/
  | stepDrainBody
  /-- R188: STEP_UNREACHABLE_1000, selector 1000. -/
  | stepUnreachable1000
  /-- R188: STEP_UNREACHABLE_1001, selector 1001. -/
  | stepUnreachable1001
  /-- R188: STEP_UNREACHABLE_1010, selector 1010. -/
  | stepUnreachable1010
  /-- R188: STEP_UNREACHABLE_1100, selector 1100. -/
  | stepUnreachable1100
  /-- R188: STEP_UNREACHABLE_1110, selector 1110. -/
  | stepUnreachable1110
  /-- R188: STEP_UNREACHABLE_1111, selector 1111. -/
  | stepUnreachable1111
  deriving DecidableEq, Repr

end Sys2Proof
end

