-- ==== Sys2Proof/WellFormed.lean ====
section
/-! DEFINITION. Which terms of `Instr` stand for a word of the encoding (spec/30_encoding.md R81): the two reserved
rows are selected only at an offset that is misaligned or at least 0x3C; every other row takes any DATA. -/

namespace Sys2Proof

/-- R81: the offsets that select RD_RSVD or WR_RSVD, those with OFF[1:0] not 00 and those from 0x3C up. -/
def offsetReserved (off : BitVec 8) : Bool :=
  decide (off.toNat % 4 ≠ 0) || decide (0x3C ≤ off.toNat)

/-- R81: a reserved row carries a reserved offset. -/
def Instr.wf : Instr → Bool
  | .rdRsvd off _ => offsetReserved off
  | .wrRsvd off _ => offsetReserved off
  | .rdId _ | .rdCtrl _ | .rdStatus _ | .rdMode _ | .rdPayloadLen _ | .rdDeadline _ | .rdPmemAddr _ => true
  | .rdPmemData _ | .rdScanCount _ | .rdTxCount _ | .rdEvents _ | .rdIrqEn _ | .rdPayloadCap _ => true
  | .rdMarkerInfo _ | .rdStageCycles _ => true
  | .wrId _ | .wrCtrl _ | .wrStatus _ | .wrMode _ | .wrPayloadLen _ | .wrDeadline _ | .wrPmemAddr _ => true
  | .wrPmemData _ | .wrScanCount _ | .wrTxCount _ | .wrEvents _ | .wrIrqEn _ | .wrPayloadCap _ => true
  | .wrMarkerInfo _ | .wrStageCycles _ => true
  | .stepInit | .stepAwaitReady | .stepAwaitTrigger | .stepSendLength | .stepAwaitAck | .stepSendBody => true
  | .stepDone | .stepError | .stepDrainLength | .stepDrainBody => true
  | .stepUnreachable1000 | .stepUnreachable1001 | .stepUnreachable1010 => true
  | .stepUnreachable1100 | .stepUnreachable1110 | .stepUnreachable1111 => true

end Sys2Proof
end

