-- ==== Sys2Proof/Decode.lean ====
section
/-! DEFINITION. The decoder and, after it, the encoder of the two formats of spec/30_encoding.md: BUS, the 41-bit
word {WE, OFF, DATA} of a host transaction (R80, R81, R83), and STEP, the 4-bit word {DRAIN, STATE} (R84).

`decodeBus` and `decodeStep` are what a cycle uses, on a word formed from the ports and from the state. The bytes of
`decode` and `encode` are the model's own layout of such a word (log entry 9): least significant byte first, six
bytes for BUS and one for STEP, the bits above the word zero. -/

namespace Sys2Proof

/-- Why a byte string is no operation. -/
inductive DecodeError where
  /-- Neither one byte (STEP) nor six bytes (BUS). -/
  | badLength
  /-- A bit above the 4-bit or 41-bit word is set. -/
  | paddingSet
  deriving DecidableEq, Repr

/-- What `decode` reads from a byte string: an operation, or the name of what is wrong. -/
inductive Decoded where
  | instr (i : Instr)
  | reject (e : DecodeError)
  deriving DecidableEq, Repr

/-- R83: the row of a read (WE = 0); R81 sends every offset that is not mapped to RD_RSVD. -/
def readRow (off : BitVec 8) (data : Word) : Instr :=
  match off.toNat with
  | 0x00 => .rdId data
  | 0x04 => .rdCtrl data
  | 0x08 => .rdStatus data
  | 0x0C => .rdMode data
  | 0x10 => .rdPayloadLen data
  | 0x14 => .rdDeadline data
  | 0x18 => .rdPmemAddr data
  | 0x1C => .rdPmemData data
  | 0x20 => .rdScanCount data
  | 0x24 => .rdTxCount data
  | 0x28 => .rdEvents data
  | 0x2C => .rdIrqEn data
  | 0x30 => .rdPayloadCap data
  | 0x34 => .rdMarkerInfo data
  | 0x38 => .rdStageCycles data
  | _ => .rdRsvd off data

/-- R83: the row of a write (WE = 1); R81 sends every offset that is not mapped to WR_RSVD. -/
def writeRow (off : BitVec 8) (data : Word) : Instr :=
  match off.toNat with
  | 0x00 => .wrId data
  | 0x04 => .wrCtrl data
  | 0x08 => .wrStatus data
  | 0x0C => .wrMode data
  | 0x10 => .wrPayloadLen data
  | 0x14 => .wrDeadline data
  | 0x18 => .wrPmemAddr data
  | 0x1C => .wrPmemData data
  | 0x20 => .wrScanCount data
  | 0x24 => .wrTxCount data
  | 0x28 => .wrEvents data
  | 0x2C => .wrIrqEn data
  | 0x30 => .wrPayloadCap data
  | 0x34 => .wrMarkerInfo data
  | 0x38 => .wrStageCycles data
  | _ => .wrRsvd off data

/-- R80: WE is bit 40, OFF bits 39:32, DATA bits 31:0. -/
def busWe (t : BitVec 41) : Bool := t.getLsbD 40

def busOff (t : BitVec 41) : BitVec 8 := t.extractLsb' 32 8

def busData (t : BitVec 41) : Word := t.extractLsb' 0 32

/-- R80: `T = {WE, OFF, DATA}`. -/
def busWord (we : Bool) (off : BitVec 8) (data : Word) : BitVec 41 :=
  BitVec.ofBool we ++ off ++ data

/-- R81: the one row of a BUS word; WE and OFF alone select it. -/
def decodeBus (t : BitVec 41) : Instr :=
  if busWe t then writeRow (busOff t) (busData t) else readRow (busOff t) (busData t)

/-- R84: the one row of a STEP word {DRAIN, STATE}. -/
def decodeStep (w : BitVec 4) : Instr :=
  match w.toNat with
  | 0b0000 => .stepInit
  | 0b0001 => .stepAwaitReady
  | 0b0010 => .stepAwaitTrigger
  | 0b0011 => .stepSendLength
  | 0b0100 => .stepAwaitAck
  | 0b0101 => .stepSendBody
  | 0b0110 => .stepDone
  | 0b0111 => .stepError
  | 0b1000 => .stepUnreachable1000
  | 0b1001 => .stepUnreachable1001
  | 0b1010 => .stepUnreachable1010
  | 0b1011 => .stepDrainLength
  | 0b1100 => .stepUnreachable1100
  | 0b1101 => .stepDrainBody
  | 0b1110 => .stepUnreachable1110
  | _ => .stepUnreachable1111

/-- The bytes of a STEP or BUS word to its row: total, and every rejection has a name (log entry 9). -/
def decode (bytes : List Byte) : Decoded :=
  match bytes with
  | [b] => if b.toNat < 2 ^ 4 then .instr (decodeStep (b.setWidth 4)) else .reject .paddingSet
  | [b0, b1, b2, b3, b4, b5] =>
    let w : BitVec 48 := b5 ++ b4 ++ b3 ++ b2 ++ b1 ++ b0
    if w.toNat < 2 ^ 41 then .instr (decodeBus (w.setWidth 41)) else .reject .paddingSet
  | _ => .reject .badLength

/-- `n` bytes of `w`, least significant first. -/
def bytesOfNat : Nat → Nat → List Byte
  | 0, _ => []
  | n + 1, w => BitVec.ofNat 8 w :: bytesOfNat n (w / 256)

/-- The instruction the decoder reads from a word numbered as spec/opcode_table.json numbers it, bit 0 the least
significant: a row of at most 8 bits is a STEP word in one byte, a wider one a BUS word in six. -/
def decodeTableWord (nbits w : Nat) : Option Instr :=
  let n := if nbits ≤ 8 then 1 else 6
  if w < 256 ^ n then
    match decode (bytesOfNat n w) with
    | .instr i => some i
    | .reject _ => none
  else none

/-- A word of one of the two formats. -/
inductive OpWord where
  | bus (t : BitVec 41)
  | step (w : BitVec 4)
  deriving DecidableEq, Repr

/-- R80, R83, R84: the word of an operation. -/
def encodeWord : Instr → OpWord
  | .rdId d => .bus (busWord false 0x00 d)
  | .rdCtrl d => .bus (busWord false 0x04 d)
  | .rdStatus d => .bus (busWord false 0x08 d)
  | .rdMode d => .bus (busWord false 0x0C d)
  | .rdPayloadLen d => .bus (busWord false 0x10 d)
  | .rdDeadline d => .bus (busWord false 0x14 d)
  | .rdPmemAddr d => .bus (busWord false 0x18 d)
  | .rdPmemData d => .bus (busWord false 0x1C d)
  | .rdScanCount d => .bus (busWord false 0x20 d)
  | .rdTxCount d => .bus (busWord false 0x24 d)
  | .rdEvents d => .bus (busWord false 0x28 d)
  | .rdIrqEn d => .bus (busWord false 0x2C d)
  | .rdPayloadCap d => .bus (busWord false 0x30 d)
  | .rdMarkerInfo d => .bus (busWord false 0x34 d)
  | .rdStageCycles d => .bus (busWord false 0x38 d)
  | .rdRsvd off d => .bus (busWord false off d)
  | .wrId d => .bus (busWord true 0x00 d)
  | .wrCtrl d => .bus (busWord true 0x04 d)
  | .wrStatus d => .bus (busWord true 0x08 d)
  | .wrMode d => .bus (busWord true 0x0C d)
  | .wrPayloadLen d => .bus (busWord true 0x10 d)
  | .wrDeadline d => .bus (busWord true 0x14 d)
  | .wrPmemAddr d => .bus (busWord true 0x18 d)
  | .wrPmemData d => .bus (busWord true 0x1C d)
  | .wrScanCount d => .bus (busWord true 0x20 d)
  | .wrTxCount d => .bus (busWord true 0x24 d)
  | .wrEvents d => .bus (busWord true 0x28 d)
  | .wrIrqEn d => .bus (busWord true 0x2C d)
  | .wrPayloadCap d => .bus (busWord true 0x30 d)
  | .wrMarkerInfo d => .bus (busWord true 0x34 d)
  | .wrStageCycles d => .bus (busWord true 0x38 d)
  | .wrRsvd off d => .bus (busWord true off d)
  | .stepInit => .step 0b0000
  | .stepAwaitReady => .step 0b0001
  | .stepAwaitTrigger => .step 0b0010
  | .stepSendLength => .step 0b0011
  | .stepAwaitAck => .step 0b0100
  | .stepSendBody => .step 0b0101
  | .stepDone => .step 0b0110
  | .stepError => .step 0b0111
  | .stepUnreachable1000 => .step 0b1000
  | .stepUnreachable1001 => .step 0b1001
  | .stepUnreachable1010 => .step 0b1010
  | .stepDrainLength => .step 0b1011
  | .stepUnreachable1100 => .step 0b1100
  | .stepDrainBody => .step 0b1101
  | .stepUnreachable1110 => .step 0b1110
  | .stepUnreachable1111 => .step 0b1111

/-- The bytes of a word, in the layout `decode` reads (log entry 9). -/
def OpWord.bytes : OpWord → List Byte
  | .bus t => bytesOfNat 6 t.toNat
  | .step w => bytesOfNat 1 w.toNat

/-- The bytes of an operation. -/
def encode (i : Instr) : List Byte := (encodeWord i).bytes

end Sys2Proof
end

