-- ==== Sys2Proof/Config.lean ====
section
/-! DEFINITION. What is fixed outside RBHE: the build parameters (spec/00_scope.md R6), the sampled value of every
input port in one clock cycle (spec/10_state.md R45 to R49), and the two FREE VALUES of the model, opaque constants
that no proof can evaluate: the inputs the agents choose once no input is listed (R10), and the byte PMEM holds at
an address nothing has written (R64, R281, 93_implementation_defined.md U2). -/

namespace Sys2Proof

/-- The build parameters of R6: the size of PMEM and the three markers of the marker ROM (R43). PAYLOAD_CAP is an
integer in [0, 2^32 - 1], so a 32-bit value holds every legal one. -/
structure BuildConfig where
  payloadCap : Word
  markerReady : List Byte
  markerTrigger : List Byte
  markerAck : List Byte
  deriving DecidableEq, Repr

/-- R6 MAX_MARKER_LEN: the greatest of the three marker lengths; the width of SCAN_WIN in bytes. -/
def BuildConfig.maxMarkerLen (c : BuildConfig) : Nat :=
  max c.markerReady.length (max c.markerTrigger.length c.markerAck.length)

/-- R6: "A configuration is well formed only when every marker has length 1 to 15". -/
def markerLengthOk (m : List Byte) : Bool :=
  decide (1 ≤ m.length) && decide (m.length ≤ 15)

/-- R6, U4: whether the model takes this build at all. -/
def BuildConfig.wf (c : BuildConfig) : Bool :=
  markerLengthOk c.markerReady && markerLengthOk c.markerTrigger && markerLengthOk c.markerAck

/-- R6, R7: the default ready marker, "RBIN64" followed by CR LF. -/
def defaultReady : List Byte := [0x52, 0x42, 0x49, 0x4E, 0x36, 0x34, 0x0D, 0x0A]

/-- R6: the default trigger marker, three bytes 0x03. -/
def defaultTrigger : List Byte := [0x03, 0x03, 0x03]

/-- R6, R7: the default acknowledgement marker, "OK". -/
def defaultAck : List Byte := [0x4F, 0x4B]

/-- The build that `State.reset` describes: the default markers of R6. DESIGN CHOICE (log entry 2, unsafe):
PAYLOAD_CAP is OPEN in the spec; 256 is the value the spec's own test vectors assume (95_test_vectors.md). -/
def BuildConfig.default : BuildConfig where
  payloadCap := 256
  markerReady := defaultReady
  markerTrigger := defaultTrigger
  markerAck := defaultAck

/-- The sampled value of every input port in one cycle: reset (R49), the host register bus (R45), the RX port
(R46) and the TX port (R47). -/
structure CycleInput where
  rst : Bool
  busEn : Bool
  busWe : Bool
  busAddr : BitVec 8
  busWdata : Word
  rxValid : Bool
  rxData : Byte
  rxErr : Bool
  txReady : Bool
  txDrained : Bool
  txErr : Bool
  deriving DecidableEq, Repr, Inhabited

/-- A cycle in which no agent does anything: R88's `NOP`, no RX byte, the TX side neither ready nor drained. -/
def CycleInput.idle : CycleInput where
  rst := false
  busEn := false
  busWe := false
  busAddr := 0
  busWdata := 0
  rxValid := false
  rxData := 0
  rxErr := false
  txReady := false
  txDrained := false
  txErr := false

/-- FREE VALUE. What the agents of R10 put on the input ports in cycle number `n` when the state lists no input
for it: "chosen freely". Log entry 3 (safe): nothing can be proved of it. -/
opaque Config.environment : Nat → CycleInput

/-- FREE VALUE. The byte PMEM holds at an address that nothing has written since power-up (R64, R281; U2 "A model
draws an arbitrary byte per address, as a parameter of the run"). Log entry 5 (safe). -/
opaque Config.powerUpByte : Nat → Byte

end Sys2Proof
end

