-- ==== Sys2Proof/Machine/State.lean ====
section
/-! DEFINITION. The state of RBHE as plain data (spec/10_state.md, spec/20_memory.md), the reasons a step can stop,
and the machine right after reset (spec/70_reset_and_hazards.md R280).

Three groups of fields: the build (`cfg`, fixed for the machine: no rule writes it), the architectural registers
and PMEM, and the MODEL'S OWN fields, which are marked so: the ghost ScanBuffer of R42, the inputs of the cycles to
come, and the observation of R12. -/

namespace Sys2Proof.Machine

/-- R21: the eight states of the SessionController, the values of STATE (and of ERR_STATE, R30). A 3-bit register has
exactly these eight values, so no register content is lost (log entry 17). -/
inductive SessionState where
  | init
  | awaitReady
  | awaitTrigger
  | sendLength
  | awaitAck
  | sendBody
  | done
  | error
  deriving DecidableEq, Repr

/-- R130: the three marker stages. -/
inductive Stage where
  | ready
  | trigger
  | ack
  deriving DecidableEq, Repr

/-- R251: the causes of an error, by name; `ErrCause.code` gives the value ERR_CAUSE takes. -/
inductive ErrCause where
  | rxError
  | txError
  | deadlineExceeded
  | cancelled
  | payloadTooLarge
  deriving DecidableEq, Repr

/-- R36: the six EVENTS bits, by name. -/
inductive Event where
  | readyMatch
  | triggerMatch
  | lenSent
  | ackMatch
  | done
  | error
  deriving DecidableEq, Repr

/-- R12: an event of the TX trace. -/
inductive TxEvent where
  /-- A byte handed to the transport: `tx_valid`, `tx_ready`, not `tx_err`. -/
  | byte (b : Byte)
  /-- A drain completed: `tx_flush`, `tx_drained`, not `tx_err`. -/
  | drained
  deriving DecidableEq, Repr

/-- PMEM (R60, R64): the bytes written since power-up, addresses strictly rising. An address that is not listed has
never been written; what it reads as is the free value `Config.powerUpByte` (log entry 5). -/
abbrev Memory := List Host.Cell

/-- Why the machine stops with a fault. -/
inductive Fault where
  /-- Raised by a step from a state that violates R50, and by the six STEP rows that no reachable state selects:
  R188 "must fault with reason `InvariantViolated`". Safe: the hardware's behaviour there is not specified. -/
  | invariantViolated
  deriving DecidableEq, Repr

/-- Why the machine gives a step no meaning. -/
inductive Refusal where
  /-- Raised by an arm of `exec` for a row that has no meaning yet. Safe; no arm of this model answers it. -/
  | notModelled (mnemonic : String)
  /-- Raised by every step of a build with a marker of length 0 or more than 15: R6 "a model refuses any other
  configuration" (U4). Safe. -/
  | badConfiguration
  deriving DecidableEq, Repr

/-- The state of RBHE. -/
structure State where
  /-- The marker ROM (R43) and PAYLOAD_CAP (R38): constants of the build. -/
  cfg : BuildConfig
  /-- STATE, 3 bits (R21). -/
  state : SessionState
  /-- DRAIN, 1 bit (R22). -/
  drain : Bool
  /-- LEN_IDX, 3 bits (R23). -/
  lenIdx : BitVec 3
  /-- TX_COUNT, 32 bits (R24). -/
  txCount : Word
  /-- SCAN_COUNT, 32 bits (R25). -/
  scanCount : Word
  /-- SCAN_WIN, MAX_MARKER_LEN bytes, `w[0]` first (R26). -/
  scanWin : List Byte
  /-- DIVERGED, 1 bit (R27). -/
  diverged : Bool
  /-- STAGE_CYCLES, 32 bits (R28). -/
  stageCycles : Word
  /-- ERR_CAUSE, 4 bits (R29). -/
  errCause : BitVec 4
  /-- ERR_STATE, 3 bits (R30). -/
  errState : SessionState
  /-- MODE, 3 bits (R31). -/
  mode : BitVec 3
  /-- PAYLOAD_LEN, 32 bits (R32). -/
  payloadLen : Word
  /-- DEADLINE, 32 bits (R33). -/
  deadline : Word
  /-- PMEM_ADDR, 32 bits (R34). -/
  pmemAddr : Word
  /-- EVENTS, 6 bits (R36). -/
  events : BitVec 6
  /-- IRQ_EN, 6 bits (R37). -/
  irqEn : BitVec 6
  /-- PMEM (R60, R64). -/
  pmem : Memory
  /-- MODEL'S OWN: the ghost ScanBuffer SB, the bytes consumed since the stage was entered (R42; log entry 11). -/
  scanBuf : List Byte
  /-- MODEL'S OWN: the input ports of the cycles to come, the next cycle first (R9; log entry 1). -/
  inputs : List CycleInput
  /-- MODEL'S OWN: how many cycles have run; the argument of the free environment (log entry 3). -/
  cycle : Nat
  /-- MODEL'S OWN: `bus_rdata` in the last cycle (R45; log entry 10). -/
  busRdata : Word
  /-- MODEL'S OWN: the TX trace of the run (R12; log entry 12). -/
  txTrace : List TxEvent
  /-- MODEL'S OWN: the part of the TX trace since START last acted (R71; log entry 12). -/
  sessTx : List TxEvent
  /-- MODEL'S OWN: the RX bytes consumed in the run (R12; log entry 12). -/
  rxTaken : List Byte
  deriving DecidableEq, Repr

/-- R280: the machine right after reset, of the default build, PMEM holding what it held at power-up. No input is
listed: the agents are free (log entries 1 to 5). -/
def State.reset : State where
  cfg := BuildConfig.default
  state := .init
  drain := false
  lenIdx := 0
  txCount := 0
  scanCount := 0
  scanWin := List.replicate BuildConfig.default.maxMarkerLen 0
  diverged := false
  stageCycles := 0
  errCause := 0
  errState := .init
  mode := 0
  payloadLen := 0
  deadline := 0
  pmemAddr := 0
  events := 0
  irqEn := 0
  pmem := []
  scanBuf := []
  inputs := []
  cycle := 0
  busRdata := 0
  txTrace := []
  sessTx := []
  rxTaken := []

end Sys2Proof.Machine
end

