-- ==== Sys2Proof/Machine/Operands.lean ====
section
/-! DEFINITION. Operand assembly: the codes of the named registers' values (spec/10_state.md R21, R29), the DATA
bits a BUS write takes (spec/30_encoding.md R82), the stage's marker and mode (10_state.md R43), the bytes of the
length prefix (43_transfer.md R150), and the sampled inputs of the cycle. -/

namespace Sys2Proof.Machine

/-- R21: the 3-bit encoding of STATE. -/
def SessionState.code : SessionState → BitVec 3
  | .init => 0
  | .awaitReady => 1
  | .awaitTrigger => 2
  | .sendLength => 3
  | .awaitAck => 4
  | .sendBody => 5
  | .done => 6
  | .error => 7

/-- R21, read backwards: the state a 3-bit value names. -/
def SessionState.ofCode (w : BitVec 3) : SessionState :=
  match w.toNat with
  | 0 => .init
  | 1 => .awaitReady
  | 2 => .awaitTrigger
  | 3 => .sendLength
  | 4 => .awaitAck
  | 5 => .sendBody
  | 6 => .done
  | _ => .error

/-- R251: the value of ERR_CAUSE for each cause; 0 is NONE, 6 to 15 are never written. -/
def ErrCause.code : ErrCause → BitVec 4
  | .rxError => 1
  | .txError => 2
  | .deadlineExceeded => 3
  | .cancelled => 4
  | .payloadTooLarge => 5

/-- R43: the state in which a stage runs. -/
def Stage.state : Stage → SessionState
  | .ready => .awaitReady
  | .trigger => .awaitTrigger
  | .ack => .awaitAck

/-- R43: the stage of an AWAIT state; the current marker and mode are defined only there. -/
def SessionState.stage? : SessionState → Option Stage
  | .awaitReady => some .ready
  | .awaitTrigger => some .trigger
  | .awaitAck => some .ack
  | .init | .sendLength | .sendBody | .done | .error => none

/-- R43: CurMarker. -/
def Stage.marker (c : BuildConfig) : Stage → List Byte
  | .ready => c.markerReady
  | .trigger => c.markerTrigger
  | .ack => c.markerAck

/-- R31, R43: CurExact, the stage's bit of MODE; `true` is exact-from-start. -/
def Stage.exact (mode : BitVec 3) : Stage → Bool
  | .ready => mode.getLsbD 0
  | .trigger => mode.getLsbD 1
  | .ack => mode.getLsbD 2

/-- R131 to R133: the EVENTS bit a stage's match sets. -/
def Stage.event : Stage → Event
  | .ready => .readyMatch
  | .trigger => .triggerMatch
  | .ack => .ackMatch

/-- R82: CTRL.START. -/
def ctrlStart (data : Word) : Bool := data.getLsbD 0

/-- R82: CTRL.ABORT. -/
def ctrlAbort (data : Word) : Bool := data.getLsbD 1

/-- R82: CTRL.CLEAR. -/
def ctrlClear (data : Word) : Bool := data.getLsbD 2

/-- R82: the three bits WR_MODE takes. -/
def modeOperand (data : Word) : BitVec 3 := data.extractLsb' 0 3

/-- R82: the six bits WR_EVENTS and WR_IRQ_EN take. -/
def eventOperand (data : Word) : BitVec 6 := data.extractLsb' 0 6

/-- R82: the byte WR_PMEM_DATA takes. -/
def byteOperand (data : Word) : Byte := data.extractLsb' 0 8

/-- R150: `LenByte(L, k) = L[8k+7 : 8k]`. -/
def lenByte (len : Word) (k : Nat) : Byte := len.extractLsb' (8 * k) 8

/-- R150: `Ser(L)`, the four bytes of the length prefix in wire order. -/
def serLen (len : Word) : List Byte := [lenByte len 0, lenByte len 1, lenByte len 2, lenByte len 3]

/-- R150: `Deser(b0, b1, b2, b3)`. -/
def deserLen (b0 b1 b2 b3 : Byte) : Nat :=
  b0.toNat + 2 ^ 8 * b1.toNat + 2 ^ 16 * b2.toNat + 2 ^ 24 * b3.toNat

/-- R9: the sampled inputs of this cycle: the first listed, or the free environment's where none is listed. -/
def State.input (s : State) : CycleInput :=
  match s.inputs with
  | i :: _ => i
  | [] => Config.environment s.cycle

/-- R80: the BUS word of this cycle's ports. -/
def portWord (i : CycleInput) : BitVec 41 := busWord i.busWe i.busAddr i.busWdata

end Sys2Proof.Machine
end

