-- ==== Sys2Proof/Machine/Flags.lean ====
section
/-! DEFINITION. Every flag computation of RBHE: the EVENTS bits and `irq` (spec/10_state.md R36, R37, R41), ACTIVE
(R44), the STATUS word (R39), MARKER_INFO (R38), DIVERGED and the two match predicates (41_scanner.md R101 to
R103), and the saturating increment (00_scope.md R8). -/

namespace Sys2Proof.Machine

/-- R8, R25, R28: `sat32(v + 1)`. -/
def satInc (v : Word) : Word := BitVec.ofNat 32 (min (v.toNat + 1) (2 ^ 32 - 1))

/-- R44: STATE is one of the five session states. -/
def SessionState.active : SessionState → Bool
  | .awaitReady | .awaitTrigger | .sendLength | .awaitAck | .sendBody => true
  | .init | .done | .error => false

/-- R44: ACTIVE. Its negation is idle. -/
def State.active (s : State) : Bool := s.state.active

/-- R36: the mask of one EVENTS bit. -/
def Event.mask : Event → BitVec 6
  | .readyMatch => 0b000001
  | .triggerMatch => 0b000010
  | .lenSent => 0b000100
  | .ackMatch => 0b001000
  | .done => 0b010000
  | .error => 0b100000

/-- R215: `EVENTS and not DATA[5:0]`. -/
def clearEvents (events clear : BitVec 6) : BitVec 6 := events &&& ~~~clear

/-- R41, R262: `irq = (EVENTS and IRQ_EN) != 0`. -/
def State.irq (s : State) : Bool := decide (s.events &&& s.irqEn ≠ 0)

/-- R39: STATUS, `zext_32({LEN_IDX, 0b0, ERR_STATE, ERR_CAUSE, 0b00, DRAIN, DIVERGED, ACTIVE, STATE})`. -/
def State.statusWord (s : State) : Word :=
  (s.lenIdx ++ 0#1 ++ s.errState.code ++ s.errCause ++ 0#2 ++ BitVec.ofBool s.drain ++ BitVec.ofBool s.diverged
    ++ BitVec.ofBool s.active ++ s.state.code).setWidth 32

/-- R38, R232: MARKER_INFO, the three marker lengths in four bits each. -/
def markerInfo (c : BuildConfig) : Word :=
  (BitVec.ofNat 4 c.markerAck.length ++ BitVec.ofNat 4 c.markerTrigger.length
    ++ BitVec.ofNat 4 c.markerReady.length).setWidth 32

/-- R101: `i < M and b != m[i]`, the byte consumed at position `i` differs from the marker's byte there. -/
def differsAt (marker : List Byte) (i : Nat) (b : Byte) : Bool :=
  match marker[i]? with
  | some x => decide (b ≠ x)
  | none => false

/-- R102: ContainsMatch: at least M bytes are consumed and the last M of them are the marker. `win` has W bytes, so
dropping W - M leaves its last M. -/
def containsMatch (marker win : List Byte) (cnt : Word) : Bool :=
  decide (marker.length ≤ cnt.toNat) && decide (win.drop (win.length - marker.length) = marker)

/-- R103: ExactMatch: no divergence, and exactly M bytes consumed. -/
def exactMatch (marker : List Byte) (cnt : Word) (div : Bool) : Bool :=
  !div && decide (cnt.toNat = marker.length)

end Sys2Proof.Machine
end

