-- ==== Sys2Proof/Machine/Ops.lean ====
section
/-! DEFINITION. The named operations over PMEM and the registers: the PMEM primitives (spec/20_memory.md R64), the
register window's PMEM access (45_register_access.md R222, R223), setting an event (10_state.md R36), stage entry and
byte consumption (41_scanner.md R100, R101), the one error entry, RBHE's form of taking an exception
(60_exceptions.md R258), beside it CLEAR, the one return from it (44_controller.md R184, 60_exceptions.md R261), the
other commands (R182, R183), and reset (70_reset_and_hazards.md R280, R281). -/

namespace Sys2Proof.Machine

/-- Go on from a next state; a fault or a refusal stands. -/
def andThen (o : Host.Outcome State Fault Refusal) (f : State → Host.Outcome State Fault Refusal) :
    Host.Outcome State Fault Refusal :=
  match o with
  | .next s => f s
  | .fault r => .fault r
  | .refused r => .refused r

/-! ### PMEM -/

/-- The byte written last at `a`, if any was. -/
def Memory.read? : Memory → Nat → Option Byte
  | [], _ => none
  | (x, v) :: rest, a => if x = a then some v else Memory.read? rest a

/-- R64: `PMEM[a]' = v`, keeping the addresses strictly rising. -/
def Memory.write : Memory → Nat → Byte → Memory
  | [], a, v => [(a, v)]
  | (x, w) :: rest, a, v =>
    if a < x then (a, v) :: (x, w) :: rest
    else if a = x then (a, v) :: rest
    else (x, w) :: Memory.write rest a v

/-- The canonical form: addresses strictly rising. An unlisted address reads as no value at all, so no entry can
equal what an unlisted one reads as. -/
def Memory.wf : Memory → Bool
  | [] => true
  | [_] => true
  | (a, _) :: (b, w) :: rest => decide (a < b) && Memory.wf ((b, w) :: rest)

/-- Every listed address is one that exists: below PAYLOAD_CAP (R60). -/
def Memory.inRange (cap : Nat) (m : Memory) : Bool := m.all fun c => decide (c.1 < cap)

/-- R64: `MemRead(a, 1)`. A byte that nothing has written since power-up is unspecified, "any value" (U2): the free
value of its address (log entry 5). -/
def memRead (m : Memory) (a : Nat) : Byte :=
  match m.read? a with
  | some v => v
  | none => Config.powerUpByte a

/-- R222: what a PMEM_DATA read returns; 0 at or above PAYLOAD_CAP. -/
def State.pmemWindow (s : State) : Word :=
  if s.pmemAddr < s.cfg.payloadCap then (memRead s.pmem s.pmemAddr.toNat).setWidth 32 else 0

/-- R223: the store of a PMEM_DATA write: nothing at or above PAYLOAD_CAP; PMEM_ADDR advances modulo 2^32. -/
def State.pmemStore (s : State) (b : Byte) : State :=
  { s with
    pmem := if s.pmemAddr < s.cfg.payloadCap then s.pmem.write s.pmemAddr.toNat b else s.pmem
    pmemAddr := s.pmemAddr + 1 }

/-! ### Registers -/

/-- R210 to R234: `bus_rdata` takes the value of a read; a read has no other effect (20_memory.md R66). -/
def State.withRdata (s : State) (v : Word) : State := { s with busRdata := v }

/-- R8, R36: set one EVENTS bit of the pending value, so that a set wins over a clear of the same cycle. -/
def State.setEvent (s : State) (e : Event) : State := { s with events := s.events ||| e.mask }

/-- R40: a configuration write takes effect only while idle; R217, R219, R221, R223, R225 "else ignored". -/
def State.whileIdle (s : State) (f : State → State) : State := if s.active then s else f s

/-! ### The scanner -/

/-- R100: ScanEnter, a stage starts on a fresh ScanBuffer. -/
def State.scanEnter (s : State) : State :=
  { s with
    scanCount := 0
    scanWin := List.replicate s.cfg.maxMarkerLen 0
    diverged := false
    stageCycles := 0
    scanBuf := [] }

/-- R101: DIVERGED after byte `b`: it can rise only in an exact-mode stage, and stays. -/
def State.nextDiverged (s : State) (g : Stage) (b : Byte) : Bool :=
  if g.exact s.mode then s.diverged || differsAt (g.marker s.cfg) s.scanCount.toNat b else false

/-- R101: ScanConsume's writes: the count, the window, DIVERGED, and the ghost SB. -/
def State.scanAppend (s : State) (g : Stage) (b : Byte) : State :=
  { s with
    scanCount := satInc s.scanCount
    scanWin := s.scanWin.tail ++ [b]
    diverged := s.nextDiverged g b
    scanBuf := s.scanBuf ++ [b] }

/-- R101 to R103: ScanConsume's answer, on the registers after the byte. -/
def State.scanMatched (s : State) (g : Stage) : Bool :=
  if g.exact s.mode then exactMatch (g.marker s.cfg) s.scanCount s.diverged
  else containsMatch (g.marker s.cfg) s.scanWin s.scanCount

/-! ### Taking an error, and the return from it -/

/-- R258: `raise SessionError(c)`: the state is saved, the cause recorded, DRAIN cleared, the ERROR event set;
SCAN_COUNT, SCAN_WIN, DIVERGED, STAGE_CYCLES, LEN_IDX and TX_COUNT hold their values. -/
def State.raiseError (s : State) (c : ErrCause) : State :=
  { s with
    errState := s.state
    errCause := c.code
    state := .error
    drain := false
    events := s.events ||| Event.error.mask }

/-- R184: CmdClear, the only return from ERROR (R261): the session registers are cleared; MODE, PAYLOAD_LEN, DEADLINE,
PMEM_ADDR, PMEM, EVENTS and IRQ_EN keep their values. -/
def State.cmdClear (s : State) : State :=
  { s with
    state := .init
    errCause := 0
    errState := .init
    drain := false
    lenIdx := 0
    txCount := 0
    scanCount := 0
    scanWin := List.replicate s.cfg.maxMarkerLen 0
    diverged := false
    stageCycles := 0
    scanBuf := [] }

/-! ### The other commands -/

/-- R182: the successful START: a session begins in AWAIT_READY. The session's part of the TX trace starts empty
(log entry 12). -/
def State.beginSession (s : State) : State :=
  State.scanEnter { s with state := .awaitReady, lenIdx := 0, txCount := 0, drain := false, sessTx := [] }

/-- R182: CmdStart. A payload that cannot be in PMEM is refused before any wire byte (R256). -/
def State.cmdStart (s : State) : State :=
  if s.cfg.payloadCap < s.payloadLen then s.raiseError .payloadTooLarge else s.beginSession

/-- R183: CmdAbort. -/
def State.cmdAbort (s : State) : State := s.raiseError .cancelled

/-- R180, R212: the command conditions; they are on disjoint sets of states, so at most one command acts. -/
def State.startActs (s : State) (data : Word) : Bool := ctrlStart data && decide (s.state = .init)

def State.abortActs (s : State) (data : Word) : Bool := ctrlAbort data && s.active

def State.clearActs (s : State) (data : Word) : Bool :=
  ctrlClear data && (decide (s.state = .done) || decide (s.state = .error))

/-- R180, R212: the command that acts, if one does. -/
def State.command (s : State) (data : Word) : State :=
  if s.startActs data then s.cmdStart
  else if s.abortActs data then s.cmdAbort
  else if s.clearActs data then s.cmdClear
  else s

/-! ### Transfer -/

/-- R153: SendBodyEnter. -/
def State.sendBodyEnter (s : State) : State :=
  { s with state := .sendBody, txCount := 0, drain := decide (s.payloadLen = 0) }

/-! ### Reset -/

/-- R280, R281: ResetState: every register at its reset value. The build and PMEM are not changed by `rst`; the
model's inputs, cycle number and observation go on. -/
def State.resetRegs (s : State) : State :=
  { s with
    state := .init
    drain := false
    lenIdx := 0
    txCount := 0
    scanCount := 0
    scanWin := List.replicate s.cfg.maxMarkerLen 0
    diverged := false
    stageCycles := 0
    errCause := 0
    errState := .init
    mode := 0
    payloadLen := 0
    deadline := 0
    pmemAddr := 0
    events := 0
    irqEn := 0
    scanBuf := [] }

end Sys2Proof.Machine
end

