-- ==== Sys2Proof/Machine/Controller.lean ====
section
/-! DEFINITION. The idle STEP rows (spec/44_controller.md R181, R185, R186), which write nothing and sample no port
input, and the six selectors that no reachable state has (R188, 30_encoding.md R86). -/

namespace Sys2Proof.Machine

/-- R181, STEP_INIT: wait for START; no write. -/
def execStepInit (s : State) : Host.Outcome State Fault Refusal := .next s

/-- R185, STEP_DONE: the link is handed off; no write. -/
def execStepDone (s : State) : Host.Outcome State Fault Refusal := .next s

/-- R186, STEP_ERROR: the link is released; no write, and no second error. -/
def execStepError (s : State) : Host.Outcome State Fault Refusal := .next s

/-- R188, STEP_UNREACHABLE_1000: DRAIN = 1 in INIT; "must fault with reason `InvariantViolated`". -/
def execStepUnreachable1000 (_s : State) : Host.Outcome State Fault Refusal := .fault .invariantViolated

/-- R188, STEP_UNREACHABLE_1001: DRAIN = 1 in AWAIT_READY; "must fault with reason `InvariantViolated`". -/
def execStepUnreachable1001 (_s : State) : Host.Outcome State Fault Refusal := .fault .invariantViolated

/-- R188, STEP_UNREACHABLE_1010: DRAIN = 1 in AWAIT_TRIGGER; "must fault with reason `InvariantViolated`". -/
def execStepUnreachable1010 (_s : State) : Host.Outcome State Fault Refusal := .fault .invariantViolated

/-- R188, STEP_UNREACHABLE_1100: DRAIN = 1 in AWAIT_ACK; "must fault with reason `InvariantViolated`". -/
def execStepUnreachable1100 (_s : State) : Host.Outcome State Fault Refusal := .fault .invariantViolated

/-- R188, STEP_UNREACHABLE_1110: DRAIN = 1 in DONE; "must fault with reason `InvariantViolated`". -/
def execStepUnreachable1110 (_s : State) : Host.Outcome State Fault Refusal := .fault .invariantViolated

/-- R188, STEP_UNREACHABLE_1111: DRAIN = 1 in ERROR; "must fault with reason `InvariantViolated`". -/
def execStepUnreachable1111 (_s : State) : Host.Outcome State Fault Refusal := .fault .invariantViolated

end Sys2Proof.Machine
end

