-- ==== Sys2Proof/Machine/Reads.lean ====
section
/-! DEFINITION. The 16 BUS reads (spec/45_register_access.md). A read returns a value of the state at the start of
the cycle on `bus_rdata` and has no other effect (20_memory.md R66). DATA is ignored (30_encoding.md R80). -/

namespace Sys2Proof.Machine

/-- R210, RD_ID: the constant ID. -/
def execRdId (_data : Word) (s : State) : Host.Outcome State Fault Refusal :=
  .next (s.withRdata 0x52424845)

/-- R211, RD_CTRL: CTRL holds no state and reads 0. -/
def execRdCtrl (_data : Word) (s : State) : Host.Outcome State Fault Refusal :=
  .next (s.withRdata 0)

/-- R213, RD_STATUS: STATUS at the start of the cycle. -/
def execRdStatus (_data : Word) (s : State) : Host.Outcome State Fault Refusal :=
  .next (s.withRdata s.statusWord)

/-- R216, RD_MODE. -/
def execRdMode (_data : Word) (s : State) : Host.Outcome State Fault Refusal :=
  .next (s.withRdata (s.mode.setWidth 32))

/-- R218, RD_PAYLOAD_LEN. -/
def execRdPayloadLen (_data : Word) (s : State) : Host.Outcome State Fault Refusal :=
  .next (s.withRdata s.payloadLen)

/-- R220, RD_DEADLINE. -/
def execRdDeadline (_data : Word) (s : State) : Host.Outcome State Fault Refusal :=
  .next (s.withRdata s.deadline)

/-- R224, RD_PMEM_ADDR. -/
def execRdPmemAddr (_data : Word) (s : State) : Host.Outcome State Fault Refusal :=
  .next (s.withRdata s.pmemAddr)

/-- R222, RD_PMEM_DATA: the byte at PMEM_ADDR, 0 at or above PAYLOAD_CAP; PMEM_ADDR stays. -/
def execRdPmemData (_data : Word) (s : State) : Host.Outcome State Fault Refusal :=
  .next (s.withRdata s.pmemWindow)

/-- R226, RD_SCAN_COUNT. -/
def execRdScanCount (_data : Word) (s : State) : Host.Outcome State Fault Refusal :=
  .next (s.withRdata s.scanCount)

/-- R227, RD_TX_COUNT. -/
def execRdTxCount (_data : Word) (s : State) : Host.Outcome State Fault Refusal :=
  .next (s.withRdata s.txCount)

/-- R214, RD_EVENTS; reading does not clear. -/
def execRdEvents (_data : Word) (s : State) : Host.Outcome State Fault Refusal :=
  .next (s.withRdata (s.events.setWidth 32))

/-- R228, RD_IRQ_EN. -/
def execRdIrqEn (_data : Word) (s : State) : Host.Outcome State Fault Refusal :=
  .next (s.withRdata (s.irqEn.setWidth 32))

/-- R231, RD_PAYLOAD_CAP. -/
def execRdPayloadCap (_data : Word) (s : State) : Host.Outcome State Fault Refusal :=
  .next (s.withRdata s.cfg.payloadCap)

/-- R232, RD_MARKER_INFO. -/
def execRdMarkerInfo (_data : Word) (s : State) : Host.Outcome State Fault Refusal :=
  .next (s.withRdata (markerInfo s.cfg))

/-- R233, RD_STAGE_CYCLES. -/
def execRdStageCycles (_data : Word) (s : State) : Host.Outcome State Fault Refusal :=
  .next (s.withRdata s.stageCycles)

/-- R234, RD_RSVD: a reserved or misaligned offset reads 0. -/
def execRdRsvd (_off : BitVec 8) (_data : Word) (s : State) : Host.Outcome State Fault Refusal :=
  .next (s.withRdata 0)

end Sys2Proof.Machine
end

