-- ==== Sys2Proof/Machine/Sequencer.lean ====
section
/-! DEFINITION. The three AWAIT rows (spec/42_sequencer.md R131 to R133) over their common body AwaitStep (R135),
which uses the scanner of 41_scanner.md. A row's stage, and with it the marker and the MODE bit, is the row's own. -/

namespace Sys2Proof.Machine

/-- R131 to R133: `Next()`, the exit action of a stage. -/
def State.stageExit (s : State) : Stage → State
  | .ready => State.scanEnter { s with state := .awaitTrigger }
  | .trigger => { s with state := .sendLength, drain := false }
  | .ack => s.sendBodyEnter

/-- R254: the deadline is set and the stage has run that many cycles. -/
def State.deadlinePassed (s : State) : Bool :=
  decide (s.deadline ≠ 0) && decide (s.deadline ≤ s.stageCycles)

/-- R101, R135: consume one byte; on a match set the stage's event and leave by its exit action. -/
def State.scanByte (s : State) (g : Stage) (b : Byte) : State :=
  let t := s.scanAppend g b
  if t.scanMatched g then (t.setEvent g.event).stageExit g else t

/-- R135: AwaitStep. A transport error is raised before a deadline, and either before any scanning (R259); the byte
offered in an erroring cycle never enters SB (R260). -/
def State.awaitStep (s : State) (g : Stage) : State :=
  if s.input.rxErr then s.raiseError .rxError
  else if s.deadlinePassed then s.raiseError .deadlineExceeded
  else
    let t := { s with stageCycles := satInc s.stageCycles }
    if s.input.rxValid then t.scanByte g s.input.rxData else t

/-- R131, STEP_AWAIT_READY. -/
def execStepAwaitReady (s : State) : Host.Outcome State Fault Refusal := .next (s.awaitStep .ready)

/-- R132, STEP_AWAIT_TRIGGER. -/
def execStepAwaitTrigger (s : State) : Host.Outcome State Fault Refusal := .next (s.awaitStep .trigger)

/-- R133, STEP_AWAIT_ACK. -/
def execStepAwaitAck (s : State) : Host.Outcome State Fault Refusal := .next (s.awaitStep .ack)

end Sys2Proof.Machine
end

