-- ==== Sys2Proof/Machine/Transfer.lean ====
section
/-! DEFINITION. The four SEND and DRAIN rows (spec/43_transfer.md R151, R152, R154, R155). In each, `tx_err` raises
TX_ERROR before anything else and the byte of that cycle is not counted (60_exceptions.md R253). The bytes themselves
are on the `tx_data` port (Ports.lean). -/

namespace Sys2Proof.Machine

/-- R151, R253: run the row's own work, unless `tx_err` raises TX_ERROR. -/
def State.unlessTxErr (s : State) (f : State → State) : State :=
  if s.input.txErr then s.raiseError .txError else f s

/-- R151: one length byte is handed to the transport; the fourth starts the drain. -/
def State.lengthByteTaken (s : State) : State :=
  { s with lenIdx := s.lenIdx + 1, drain := if s.lenIdx = 3 then true else s.drain }

/-- R154: one body byte is handed to the transport; the last starts the drain. -/
def State.bodyByteTaken (s : State) : State :=
  { s with txCount := s.txCount + 1, drain := if s.txCount + 1 = s.payloadLen then true else s.drain }

/-- R152: the length prefix has drained; the acknowledgement stage starts. -/
def State.lengthDrained (s : State) : State :=
  State.scanEnter (State.setEvent { s with state := .awaitAck, drain := false } .lenSent)

/-- R155: the body has drained; the session is done. -/
def State.bodyDrained (s : State) : State :=
  State.setEvent { s with state := .done, drain := false } .done

/-- R151, STEP_SEND_LENGTH: emit the next length byte. -/
def execStepSendLength (s : State) : Host.Outcome State Fault Refusal :=
  .next (s.unlessTxErr fun t => if t.input.txReady then t.lengthByteTaken else t)

/-- R152, STEP_DRAIN_LENGTH: wait until the length prefix is fully handed on. -/
def execStepDrainLength (s : State) : Host.Outcome State Fault Refusal :=
  .next (s.unlessTxErr fun t => if t.input.txDrained then t.lengthDrained else t)

/-- R154, STEP_SEND_BODY: emit the next body byte. -/
def execStepSendBody (s : State) : Host.Outcome State Fault Refusal :=
  .next (s.unlessTxErr fun t => if t.input.txReady then t.bodyByteTaken else t)

/-- R155, STEP_DRAIN_BODY: wait until the body is fully handed on. -/
def execStepDrainBody (s : State) : Host.Outcome State Fault Refusal :=
  .next (s.unlessTxErr fun t => if t.input.txDrained then t.bodyDrained else t)

end Sys2Proof.Machine
end

