-- ==== Sys2Proof/Machine/Writes.lean ====
section
/-! DEFINITION. The 16 BUS writes (spec/45_register_access.md). Each takes the DATA bits of 30_encoding.md R82 and
ignores the rest. No write raises a bus error (10_state.md R45). -/

namespace Sys2Proof.Machine

/-- R212, WR_CTRL: the command whose bit is set and whose state condition holds acts: START in INIT (R182), ABORT
while ACTIVE (R183), CLEAR in DONE and ERROR (R184). ABORT's error entry is made here; the cycle then runs no STEP
row (R180). -/
def execWrCtrl (data : Word) (s : State) : Host.Outcome State Fault Refusal :=
  .next (s.command data)

/-- R217, WR_MODE. -/
def execWrMode (data : Word) (s : State) : Host.Outcome State Fault Refusal :=
  .next (s.whileIdle fun t => { t with mode := modeOperand data })

/-- R219, WR_PAYLOAD_LEN: all 32 bits; a value above PAYLOAD_CAP is refused only at START. -/
def execWrPayloadLen (data : Word) (s : State) : Host.Outcome State Fault Refusal :=
  .next (s.whileIdle fun t => { t with payloadLen := data })

/-- R221, WR_DEADLINE. -/
def execWrDeadline (data : Word) (s : State) : Host.Outcome State Fault Refusal :=
  .next (s.whileIdle fun t => { t with deadline := data })

/-- R225, WR_PMEM_ADDR. -/
def execWrPmemAddr (data : Word) (s : State) : Host.Outcome State Fault Refusal :=
  .next (s.whileIdle fun t => { t with pmemAddr := data })

/-- R223, WR_PMEM_DATA: stores bits 7:0 at PMEM_ADDR and advances it; ignored entirely while ACTIVE. -/
def execWrPmemData (data : Word) (s : State) : Host.Outcome State Fault Refusal :=
  .next (s.whileIdle fun t => t.pmemStore (byteOperand data))

/-- R215, WR_EVENTS: write 1 to clear, in every state. -/
def execWrEvents (data : Word) (s : State) : Host.Outcome State Fault Refusal :=
  .next { s with events := clearEvents s.events (eventOperand data) }

/-- R229, WR_IRQ_EN, in every state. -/
def execWrIrqEn (data : Word) (s : State) : Host.Outcome State Fault Refusal :=
  .next { s with irqEn := eventOperand data }

/-- R230, WR_ID: a read-only offset; the transaction has no effect in any state. -/
def execWrId (_data : Word) (s : State) : Host.Outcome State Fault Refusal := .next s

/-- R230, WR_STATUS: a read-only offset; the transaction has no effect in any state. -/
def execWrStatus (_data : Word) (s : State) : Host.Outcome State Fault Refusal := .next s

/-- R230, WR_SCAN_COUNT: a read-only offset; the transaction has no effect in any state. -/
def execWrScanCount (_data : Word) (s : State) : Host.Outcome State Fault Refusal := .next s

/-- R230, WR_TX_COUNT: a read-only offset; the transaction has no effect in any state. -/
def execWrTxCount (_data : Word) (s : State) : Host.Outcome State Fault Refusal := .next s

/-- R230, WR_PAYLOAD_CAP: a read-only offset; the transaction has no effect in any state. -/
def execWrPayloadCap (_data : Word) (s : State) : Host.Outcome State Fault Refusal := .next s

/-- R230, WR_MARKER_INFO: a read-only offset; the transaction has no effect in any state. -/
def execWrMarkerInfo (_data : Word) (s : State) : Host.Outcome State Fault Refusal := .next s

/-- R230, WR_STAGE_CYCLES: a read-only offset; the transaction has no effect in any state. -/
def execWrStageCycles (_data : Word) (s : State) : Host.Outcome State Fault Refusal := .next s

/-- R235, WR_RSVD: a reserved or misaligned offset; no write. -/
def execWrRsvd (_off : BitVec 8) (_data : Word) (s : State) : Host.Outcome State Fault Refusal := .next s

end Sys2Proof.Machine
end

