-- ==== Sys2Proof/Machine/Dispatch.lean ====
section
/-! DEFINITION. One arm per row of spec/opcode_table.json: the row's meaning. -/

namespace Sys2Proof.Machine

def exec (i : Instr) (s : State) : Host.Outcome State Fault Refusal :=
  match i with
  | .rdId data => Sys2Proof.Machine.execRdId data s
  | .rdCtrl data => Sys2Proof.Machine.execRdCtrl data s
  | .rdStatus data => Sys2Proof.Machine.execRdStatus data s
  | .rdMode data => Sys2Proof.Machine.execRdMode data s
  | .rdPayloadLen data => Sys2Proof.Machine.execRdPayloadLen data s
  | .rdDeadline data => Sys2Proof.Machine.execRdDeadline data s
  | .rdPmemAddr data => Sys2Proof.Machine.execRdPmemAddr data s
  | .rdPmemData data => Sys2Proof.Machine.execRdPmemData data s
  | .rdScanCount data => Sys2Proof.Machine.execRdScanCount data s
  | .rdTxCount data => Sys2Proof.Machine.execRdTxCount data s
  | .rdEvents data => Sys2Proof.Machine.execRdEvents data s
  | .rdIrqEn data => Sys2Proof.Machine.execRdIrqEn data s
  | .rdPayloadCap data => Sys2Proof.Machine.execRdPayloadCap data s
  | .rdMarkerInfo data => Sys2Proof.Machine.execRdMarkerInfo data s
  | .rdStageCycles data => Sys2Proof.Machine.execRdStageCycles data s
  | .wrId data => Sys2Proof.Machine.execWrId data s
  | .wrCtrl data => Sys2Proof.Machine.execWrCtrl data s
  | .wrStatus data => Sys2Proof.Machine.execWrStatus data s
  | .wrMode data => Sys2Proof.Machine.execWrMode data s
  | .wrPayloadLen data => Sys2Proof.Machine.execWrPayloadLen data s
  | .wrDeadline data => Sys2Proof.Machine.execWrDeadline data s
  | .wrPmemAddr data => Sys2Proof.Machine.execWrPmemAddr data s
  | .wrPmemData data => Sys2Proof.Machine.execWrPmemData data s
  | .wrScanCount data => Sys2Proof.Machine.execWrScanCount data s
  | .wrTxCount data => Sys2Proof.Machine.execWrTxCount data s
  | .wrEvents data => Sys2Proof.Machine.execWrEvents data s
  | .wrIrqEn data => Sys2Proof.Machine.execWrIrqEn data s
  | .wrPayloadCap data => Sys2Proof.Machine.execWrPayloadCap data s
  | .wrMarkerInfo data => Sys2Proof.Machine.execWrMarkerInfo data s
  | .wrStageCycles data => Sys2Proof.Machine.execWrStageCycles data s
  | .rdRsvd off data => Sys2Proof.Machine.execRdRsvd off data s
  | .wrRsvd off data => Sys2Proof.Machine.execWrRsvd off data s
  | .stepInit => Sys2Proof.Machine.execStepInit s
  | .stepAwaitReady => Sys2Proof.Machine.execStepAwaitReady s
  | .stepAwaitTrigger => Sys2Proof.Machine.execStepAwaitTrigger s
  | .stepSendLength => Sys2Proof.Machine.execStepSendLength s
  | .stepAwaitAck => Sys2Proof.Machine.execStepAwaitAck s
  | .stepSendBody => Sys2Proof.Machine.execStepSendBody s
  | .stepDone => Sys2Proof.Machine.execStepDone s
  | .stepError => Sys2Proof.Machine.execStepError s
  | .stepDrainLength => Sys2Proof.Machine.execStepDrainLength s
  | .stepDrainBody => Sys2Proof.Machine.execStepDrainBody s
  | .stepUnreachable1000 => Sys2Proof.Machine.execStepUnreachable1000 s
  | .stepUnreachable1001 => Sys2Proof.Machine.execStepUnreachable1001 s
  | .stepUnreachable1010 => Sys2Proof.Machine.execStepUnreachable1010 s
  | .stepUnreachable1100 => Sys2Proof.Machine.execStepUnreachable1100 s
  | .stepUnreachable1110 => Sys2Proof.Machine.execStepUnreachable1110 s
  | .stepUnreachable1111 => Sys2Proof.Machine.execStepUnreachable1111 s

end Sys2Proof.Machine
end

