-- ==== Sys2Proof/Machine/Invariant.lean ====
section
/-! DEFINITION. The invariants of spec/10_state.md R50, item by item, and the agreement of the scanner registers with
the ghost ScanBuffer (R42): what a step asks of the state it starts from (44_controller.md R188).

What items 4 and 5 say of DONE stands apart (`State.DoneLengthOk`): a WR_PAYLOAD_LEN in DONE takes effect (R219, R40
"RW idle") and can end it, and the cycle after such a write faults, as R188 says of any violation of R50 (log entry 6).
The rest of R50 (`State.R50Core`) is kept by every step. -/

namespace Sys2Proof.Machine

/-- `m` occurs in `l` as a contiguous run. -/
def containsRun (m : List Byte) : List Byte → Bool
  | [] => m.isEmpty
  | b :: rest => m.isPrefixOf (b :: rest) || containsRun m rest

/-- R42: what SCAN_WIN holds when `sb` has been consumed: its last W bytes, with 0x00 where fewer were. -/
def windowOf (w : Nat) (sb : List Byte) : List Byte := (List.replicate w 0 ++ sb).drop sb.length

/-- R42: SCAN_COUNT as a function of SB: `sat32(len(SB))`. -/
def countOf (sb : List Byte) : Word := BitVec.ofNat 32 (min sb.length (2 ^ 32 - 1))

/-- R42: some byte of SB differs from the marker byte at the same position. -/
def divergesFrom (marker sb : List Byte) : Bool :=
  (marker.zip sb).any fun p => decide (p.1 ≠ p.2)

/-- R50 item 8: no prefix of SB satisfies the stage's match predicate: in contains mode the marker occurs nowhere in
it, in exact mode SB has no prefix equal to the marker. -/
def notYetMatched (exact : Bool) (marker sb : List Byte) : Bool :=
  if exact then !marker.isPrefixOf sb else !containsRun marker sb

/-- R42 and R50 item 8, for the state's stage. -/
abbrev State.ScanAgrees (s : State) (g : Stage) : Prop :=
  s.scanCount = countOf s.scanBuf ∧
  s.scanWin = windowOf s.cfg.maxMarkerLen s.scanBuf ∧
  s.diverged = (g.exact s.mode && divergesFrom (g.marker s.cfg) s.scanBuf) ∧
  notYetMatched (g.exact s.mode) (g.marker s.cfg) s.scanBuf = true

/-- R50 item 1. -/
abbrev State.DrainOk (s : State) : Prop :=
  s.drain = true → s.state = .sendLength ∨ s.state = .sendBody

/-- R50 items 2, 3 and 9, what they say of LEN_IDX. -/
abbrev State.LenIdxOk (s : State) : Prop :=
  (s.state = .sendLength → s.drain = false → s.lenIdx.toNat ≤ 3) ∧
  (s.state = .sendLength → s.drain = true → s.lenIdx.toNat = 4) ∧
  (s.state = .awaitAck ∨ s.state = .sendBody ∨ s.state = .done → s.lenIdx.toNat = 4) ∧
  s.lenIdx.toNat ≤ 4

/-- R50 item 4 in the ACTIVE states. -/
abbrev State.PayloadFits (s : State) : Prop :=
  s.active = true → s.payloadLen.toNat ≤ s.cfg.payloadCap.toNat

/-- R50 item 5 in SEND_BODY. -/
abbrev State.TxCountOk (s : State) : Prop :=
  (s.state = .sendBody → s.drain = false → s.txCount.toNat < s.payloadLen.toNat) ∧
  (s.state = .sendBody → s.drain = true → s.txCount = s.payloadLen)

/-- R50 items 6 and 9, what they say of ERR_CAUSE and ERR_STATE. -/
abbrev State.ErrorOk (s : State) : Prop :=
  (s.state = .error ↔ s.errCause ≠ 0) ∧
  (s.state ≠ .error → s.errState = .init) ∧
  s.errState ≠ .done ∧ s.errState ≠ .error

/-- R50 items 7 and 8 in the three AWAIT states. -/
abbrev State.ScanOk (s : State) : Prop :=
  (s.state = .awaitReady → s.ScanAgrees .ready) ∧
  (s.state = .awaitTrigger → s.ScanAgrees .trigger) ∧
  (s.state = .awaitAck → s.ScanAgrees .ack)

/-- R50 items 4 and 5 in DONE: the length sent is the length still held, and it fits PMEM. -/
abbrev State.DoneLengthOk (s : State) : Prop :=
  s.state = .done → s.payloadLen.toNat ≤ s.cfg.payloadCap.toNat ∧ s.txCount = s.payloadLen

/-- R50 but for what items 4 and 5 say of DONE. -/
def State.R50Core (s : State) : Prop :=
  s.DrainOk ∧ s.LenIdxOk ∧ s.PayloadFits ∧ s.TxCountOk ∧ s.ErrorOk ∧ s.ScanOk

/-- R50, all nine items. -/
def State.R50 (s : State) : Prop := s.R50Core ∧ s.DoneLengthOk

/-- `State.R50Core` as a check. -/
def State.r50Core (s : State) : Bool :=
  decide s.DrainOk && decide s.LenIdxOk && decide s.PayloadFits && decide s.TxCountOk && decide s.ErrorOk
    && decide s.ScanOk

/-- R50 as the check a step makes (R188). -/
def State.r50 (s : State) : Bool := s.r50Core && decide s.DoneLengthOk

end Sys2Proof.Machine
end

