-- ==== Sys2Proof/Machine/Ports.lean ====
section
/-! DEFINITION. The output ports, functions of the state alone (spec/10_state.md R41), and the port events of a cycle,
functions of the state and the sampled inputs (10_state.md R46, R47; 00_scope.md R12). -/

namespace Sys2Proof.Machine

/-- R41: `rx_ready` is 1 exactly in the three AWAIT states. -/
def State.rxReady (s : State) : Bool :=
  match s.state with
  | .awaitReady | .awaitTrigger | .awaitAck => true
  | .init | .sendLength | .sendBody | .done | .error => false

/-- STATE is one of the two SEND states. -/
def State.sending (s : State) : Bool :=
  match s.state with
  | .sendLength | .sendBody => true
  | .init | .awaitReady | .awaitTrigger | .awaitAck | .done | .error => false

/-- R41: `tx_valid`. -/
def State.txValid (s : State) : Bool := s.sending && !s.drain

/-- R41: `tx_flush`. -/
def State.txFlush (s : State) : Bool := s.sending && s.drain

/-- R41: `tx_data`: the next length byte, the next body byte, 0x00 otherwise. -/
def State.txData (s : State) : Byte :=
  if s.drain then 0
  else
    match s.state with
    | .sendLength => lenByte s.payloadLen s.lenIdx.toNat
    | .sendBody => memRead s.pmem s.txCount.toNat
    | .init | .awaitReady | .awaitTrigger | .awaitAck | .done | .error => 0

/-- R41, R189: `link_owned`. -/
def State.linkOwned (s : State) : Bool := s.active

/-- R41, R48: `handoff`. -/
def State.handoff (s : State) : Bool := decide (s.state = .done)

/-- R46: the byte consumed in this cycle, if one is: `rx_valid` and `rx_ready`, whatever else the cycle brings
(R260, R283). -/
def State.rxByte? (s : State) : Option Byte :=
  if s.input.rxValid && s.rxReady then some s.input.rxData else none

/-- R12, R47: the TX event of this cycle, if there is one. A byte offered with `tx_err` is not in the trace (U10). -/
def State.txEvent? (s : State) : Option TxEvent :=
  if s.txValid && s.input.txReady && !s.input.txErr then some (.byte s.txData)
  else if s.txFlush && s.input.txDrained && !s.input.txErr then some .drained
  else none

end Sys2Proof.Machine
end

