-- ==== Sys2Proof/Machine/Cycle.lean ====
section
/-! DEFINITION. One clock cycle (spec/44_controller.md R180): forming the BUS word from the ports and the STEP word
from the state (30_encoding.md R80, R84), running the BUS row and then the STEP row, and recording what the ports
did. `step` (Step.lean) only calls `cycle`; `withFetchWord` only calls `State.presentWord`.

R180 lets every condition read `state`, the values at the start of the cycle. Here the STEP row runs on the state the
BUS row left. The two readings agree (log entry 7): the STEP row's selector is formed from the start state, in the
idle states a STEP row writes nothing, and in an ACTIVE state a BUS row without ABORT writes only EVENTS, IRQ_EN and
`bus_rdata`, which no STEP row reads, so that a set of an event wins over a clear. -/

namespace Sys2Proof.Machine

/-- R84: `S = {DRAIN, STATE[2:0]}`. -/
def State.selector (s : State) : BitVec 4 := BitVec.ofBool s.drain ++ s.state.code

/-- R84: the STEP row of this cycle. -/
def State.stepRow (s : State) : Instr := decodeStep s.selector

/-- R80, R180: the BUS row of this cycle, if the host issues a transaction. -/
def State.busRow? (s : State) : Option Instr :=
  if s.input.busEn then some (decodeBus (portWord s.input)) else none

/-- R180 (1): run the BUS row, if there is one. -/
def State.busPhase (s : State) (row : Option Instr) : Host.Outcome State Fault Refusal :=
  match row with
  | none => .next s
  | some i => exec i s

/-- R180: ABORT acts in this cycle, judged on the state at its start. -/
def State.abortsNow (s : State) : Bool :=
  match s.busRow? with
  | some (.wrCtrl data) => s.abortActs data
  | _ => false

/-- R180 (2): run the STEP row that the start state `s` selects, on the state `t` the BUS row left; ABORT runs none. -/
def State.enginePhase (s t : State) : Host.Outcome State Fault Refusal :=
  if s.abortsNow then .next t else exec s.stepRow t

/-- R45: `bus_rdata` in this cycle: the value of its read, 0 in a cycle with no read. -/
def State.rdataPort (s : State) : Word :=
  if s.input.busEn && !s.input.busWe then
    match exec (decodeBus (portWord s.input)) s with
    | .next t => t.busRdata
    | .fault _ => 0
    | .refused _ => 0
  else 0

/-- R12, R46, R47: the cycle that started in `s` ends in `t`: its inputs are used up and its port events, which
depend on `s` alone, are recorded. -/
def State.endCycle (s t : State) : State :=
  { t with
    inputs := s.inputs.tail
    cycle := s.cycle + 1
    txTrace := t.txTrace ++ s.txEvent?.toList
    sessTx := t.sessTx ++ s.txEvent?.toList
    rxTaken := t.rxTaken ++ s.rxByte?.toList }

/-- R180 without reset, from a legal state: the BUS row, then the STEP row. -/
def State.runRows (s : State) : Host.Outcome State Fault Refusal :=
  andThen (State.busPhase (s.withRdata 0) s.busRow?) fun t =>
    andThen (s.enginePhase t) fun u => .next (s.endCycle u)

/-- R180: one clock cycle. A build that R6 does not allow is refused; `rst` acts before anything else (R259, R280),
in any state; from a state that violates R50 the step faults (R188). The order of the three is log entry 8. -/
def cycle (s : State) : Host.Outcome State Fault Refusal :=
  if s.cfg.wf = false then .refused .badConfiguration
  else if s.input.rst then .next (s.endCycle (s.resetRegs.withRdata s.rdataPort))
  else if s.r50 then s.runRows
  else .fault .invariantViolated

/-! ### Presenting one operation to the next cycle -/

/-- The inputs of the coming cycle with the host issuing the transaction `t` and no reset; where none is listed, the
other agents do nothing. -/
def State.inputWith (s : State) (t : BitVec 41) : CycleInput :=
  { s.inputs.headD CycleInput.idle with
    rst := false
    busEn := true
    busWe := busWe t
    busAddr := busOff t
    busWdata := busData t }

/-- The inputs of the coming cycle with no transaction and no reset. -/
def State.inputQuiet (s : State) : CycleInput :=
  { s.inputs.headD CycleInput.idle with rst := false, busEn := false }

/-- LEN_IDX as R50 has it at a selector (items 2 and 3). -/
def lenIdxAt (drain : Bool) : SessionState → BitVec 3
  | .awaitAck | .sendBody | .done => 4
  | .sendLength => if drain then 4 else 0
  | .init | .awaitReady | .awaitTrigger | .error => 0

/-- PAYLOAD_LEN as R50 has it at a selector (items 4 and 5): kept where it is legal there. -/
def payloadLenAt (s : State) (drain : Bool) (st : SessionState) : Word :=
  if st = .sendBody ∧ drain = false ∧ s.payloadLen = 0 then 1
  else if s.payloadLen ≤ s.cfg.payloadCap then s.payloadLen
  else if st = .sendBody ∧ drain = false then 1
  else 0

/-- The state with the selector `w` and the companions R50 asks for there, on a fresh ScanBuffer (log entry 13). -/
def State.atSelector (s : State) (w : BitVec 4) : State :=
  let drain := w.getLsbD 3
  let st := SessionState.ofCode (w.extractLsb' 0 3)
  let len := payloadLenAt s drain st
  State.scanEnter { s with
    state := st
    drain := drain
    lenIdx := lenIdxAt drain st
    payloadLen := len
    txCount := if st = .done ∨ (st = .sendBody ∧ drain) then len else if st = .sendBody then 0 else s.txCount
    errCause := if st = .error then ErrCause.payloadTooLarge.code else 0
    errState := .init }

/-- Present one word to the next cycle. A BUS word is put on the host bus of the coming cycle; a STEP word is the
engine's own selector, so the state is put at it (log entries 1 and 13). -/
def State.presentWord (s : State) (nbits w : Nat) : State :=
  if nbits ≤ 8 then
    { s.atSelector (BitVec.ofNat 4 w) with inputs := s.inputQuiet :: s.inputs.tail }
  else
    { s with inputs := s.inputWith (BitVec.ofNat 41 w) :: s.inputs.tail }

end Sys2Proof.Machine
end

