-- ==== Sys2Proof/Machine/Step.lean ====
section
/-! DEFINITION. The step of the model: one clock cycle (spec/44_controller.md R180), and the host's way to present one
operation to the next cycle. -/

namespace Sys2Proof.Machine

/-- R180: one clock cycle. -/
def step (s : State) : Host.Outcome State Fault Refusal := cycle s

/-- The operation `w` presented to the very next step (log entries 1 and 13). -/
def State.withFetchWord (s : State) (nbits w : Nat) : State := s.presentWord nbits w

end Sys2Proof.Machine
end

