-- ==== Sys2Proof/Safety.lean ====
section
/-! DEFINITION. What counts as a safe run, in the terms the statements use: the legal states (spec/10_state.md R50 and
what its induction needs), the arrows of the transition graph (44_controller.md R187), the wire order of a session
(20_memory.md R71) and how far a session has come on it, the deadline bound (60_exceptions.md R254), and the RX
transport's duty, an assumption on the inputs that RBHE never checks (70_reset_and_hazards.md R284; log entry 15). -/

namespace Sys2Proof.Machine

/-- The legal states, those that every step keeps: a build that R6 allows, R50 but for what its items 4 and 5 say of
DONE (a WR_PAYLOAD_LEN there can end that, log entry 6), and what makes this inductive: no length byte is counted before
SEND_LENGTH (R23, R132 "LEN_IDX is 0 since START"), SCAN_WIN has W bytes (R26), no reserved cause (U9), and PMEM in its
canonical form with addresses below PAYLOAD_CAP (R60). -/
def State.legal (s : State) : Bool :=
  s.cfg.wf && s.r50Core
    && (decide (s.state ≠ .awaitReady ∧ s.state ≠ .awaitTrigger) || decide (s.lenIdx = 0))
    && decide (s.scanWin.length = s.cfg.maxMarkerLen)
    && decide (s.errCause.toNat ≤ 5)
    && s.pmem.wf && s.pmem.inRange s.cfg.payloadCap.toNat

/-- The STEP row of a stage (R131 to R133). -/
def Stage.row : Stage → Instr
  | .ready => .stepAwaitReady
  | .trigger => .stepAwaitTrigger
  | .ack => .stepAwaitAck

/-- The state a stage's match leads to (R130). -/
def Stage.nextState : Stage → SessionState
  | .ready => .awaitTrigger
  | .trigger => .sendLength
  | .ack => .sendBody

/-- R106: the reference predicate on the whole ScanBuffer: equality in exact mode, a contiguous run in contains mode. -/
def Stage.satisfied (g : Stage) (s : State) (sb : List Byte) : Prop :=
  if g.exact s.mode then sb = g.marker s.cfg else g.marker s.cfg <:+: sb

/-- R187: the arrows of the transition graph other than reset, and staying where one is. -/
def arrow (s t : SessionState) : Bool :=
  decide (s = t) ||
  match s with
  | .init => decide (t = .awaitReady) || decide (t = .error)
  | .awaitReady => decide (t = .awaitTrigger) || decide (t = .error)
  | .awaitTrigger => decide (t = .sendLength) || decide (t = .error)
  | .sendLength => decide (t = .awaitAck) || decide (t = .error)
  | .awaitAck => decide (t = .sendBody) || decide (t = .error)
  | .sendBody => decide (t = .done) || decide (t = .error)
  | .done => decide (t = .init)
  | .error => decide (t = .init)

/-- The TX events of the length prefix (R61, R150). -/
def lengthEvents (len : Word) : List TxEvent := (serLen len).map .byte

/-- The TX events of the first `n` body bytes (R62). -/
def bodyEvents (m : Memory) (n : Nat) : List TxEvent := (List.range n).map fun k => .byte (memRead m k)

/-- R71: the TX events of a whole session, in order. -/
def State.wireOrder (s : State) : List TxEvent :=
  lengthEvents s.payloadLen ++ [.drained] ++ bodyEvents s.pmem s.payloadLen.toNat ++ [.drained]

/-- R71: the TX events a session has made when it stands in `s`, by its counters. -/
def State.sentSoFar (s : State) : List TxEvent :=
  match s.state with
  | .sendLength => (lengthEvents s.payloadLen).take s.lenIdx.toNat
  | .awaitAck => lengthEvents s.payloadLen ++ [.drained]
  | .sendBody => lengthEvents s.payloadLen ++ [.drained] ++ bodyEvents s.pmem s.txCount.toNat
  | .init | .awaitReady | .awaitTrigger | .done | .error => []

/-- R71: while a session runs, its part of the TX trace is what its counters say. -/
def State.traceAgrees (s : State) : Prop := s.active = true → s.sessTx = s.sentSoFar

/-- R254: in a stage with a deadline, STAGE_CYCLES is at most DEADLINE. -/
def State.deadlineKept (s : State) : Prop :=
  s.rxReady = true → s.deadline ≠ 0 → s.stageCycles.toNat ≤ s.deadline.toNat

/-- The sampled inputs of the cycle after this one. -/
def State.nextInput (s : State) : CycleInput :=
  match s.inputs with
  | _ :: i :: _ => i
  | _ => Config.environment (s.cycle + 1)

/-- R284 item 2: a byte offered and not consumed is offered again, unchanged, in the next cycle. -/
def State.rxDuty (s : State) : Prop :=
  s.input.rxValid = true → s.rxReady = false → s.nextInput.rxValid = true ∧ s.nextInput.rxData = s.input.rxData

end Sys2Proof.Machine
end

