-- ==== Sys2Proof/Certificates/Slice0/Obligations.lean ====
section
/-! DEFINITION. The statements for the provers, each a Prop over the model; OBLIGATIONS.json lists them with the rule
of spec/ each one comes from. -/

open Sys2Proof Sys2Proof.Machine

/-! ### Encoding -/

/-- R80, R83, R84: decode and encode agree on every well-formed row, with every operand at every value. -/
def Obligations.DecodeEncodeRoundTrip : Prop :=
  ∀ i : Instr, i.wf = true → decode (encode i) = .instr i

/-- R81, R84: both decoders are total, answer a well-formed row, and lose no bit of the word. -/
def Obligations.EveryWordIsOneRow : Prop :=
  (∀ t : BitVec 41, (decodeBus t).wf = true ∧ encodeWord (decodeBus t) = .bus t) ∧
  (∀ w : BitVec 4, (decodeStep w).wf = true ∧ encodeWord (decodeStep w) = .step w)

/-- R83 and R81: the BUS opcode map, each mapped offset and direction with every DATA, and the two reserved rows. -/
def Obligations.BusOpcodeMap : Prop :=
  (∀ d : Word,
    decodeBus (busWord false 0x00 d) = .rdId d ∧
    decodeBus (busWord false 0x04 d) = .rdCtrl d ∧
    decodeBus (busWord false 0x08 d) = .rdStatus d ∧
    decodeBus (busWord false 0x0C d) = .rdMode d ∧
    decodeBus (busWord false 0x10 d) = .rdPayloadLen d ∧
    decodeBus (busWord false 0x14 d) = .rdDeadline d ∧
    decodeBus (busWord false 0x18 d) = .rdPmemAddr d ∧
    decodeBus (busWord false 0x1C d) = .rdPmemData d ∧
    decodeBus (busWord false 0x20 d) = .rdScanCount d ∧
    decodeBus (busWord false 0x24 d) = .rdTxCount d ∧
    decodeBus (busWord false 0x28 d) = .rdEvents d ∧
    decodeBus (busWord false 0x2C d) = .rdIrqEn d ∧
    decodeBus (busWord false 0x30 d) = .rdPayloadCap d ∧
    decodeBus (busWord false 0x34 d) = .rdMarkerInfo d ∧
    decodeBus (busWord false 0x38 d) = .rdStageCycles d ∧
    decodeBus (busWord true 0x00 d) = .wrId d ∧
    decodeBus (busWord true 0x04 d) = .wrCtrl d ∧
    decodeBus (busWord true 0x08 d) = .wrStatus d ∧
    decodeBus (busWord true 0x0C d) = .wrMode d ∧
    decodeBus (busWord true 0x10 d) = .wrPayloadLen d ∧
    decodeBus (busWord true 0x14 d) = .wrDeadline d ∧
    decodeBus (busWord true 0x18 d) = .wrPmemAddr d ∧
    decodeBus (busWord true 0x1C d) = .wrPmemData d ∧
    decodeBus (busWord true 0x20 d) = .wrScanCount d ∧
    decodeBus (busWord true 0x24 d) = .wrTxCount d ∧
    decodeBus (busWord true 0x28 d) = .wrEvents d ∧
    decodeBus (busWord true 0x2C d) = .wrIrqEn d ∧
    decodeBus (busWord true 0x30 d) = .wrPayloadCap d ∧
    decodeBus (busWord true 0x34 d) = .wrMarkerInfo d ∧
    decodeBus (busWord true 0x38 d) = .wrStageCycles d) ∧
  (∀ (off : BitVec 8) (d : Word), off.extractLsb' 0 2 ≠ 0 ∨ 0x3C ≤ off →
    decodeBus (busWord false off d) = .rdRsvd off d ∧ decodeBus (busWord true off d) = .wrRsvd off d)

/-- R84: the STEP row of every DRAIN and STATE. -/
def Obligations.StepSelectorMap : Prop :=
  ∀ s : State,
    (s.drain = false → s.state = .init → s.stepRow = .stepInit) ∧
    (s.drain = false → s.state = .awaitReady → s.stepRow = .stepAwaitReady) ∧
    (s.drain = false → s.state = .awaitTrigger → s.stepRow = .stepAwaitTrigger) ∧
    (s.drain = false → s.state = .sendLength → s.stepRow = .stepSendLength) ∧
    (s.drain = false → s.state = .awaitAck → s.stepRow = .stepAwaitAck) ∧
    (s.drain = false → s.state = .sendBody → s.stepRow = .stepSendBody) ∧
    (s.drain = false → s.state = .done → s.stepRow = .stepDone) ∧
    (s.drain = false → s.state = .error → s.stepRow = .stepError) ∧
    (s.drain = true → s.state = .init → s.stepRow = .stepUnreachable1000) ∧
    (s.drain = true → s.state = .awaitReady → s.stepRow = .stepUnreachable1001) ∧
    (s.drain = true → s.state = .awaitTrigger → s.stepRow = .stepUnreachable1010) ∧
    (s.drain = true → s.state = .sendLength → s.stepRow = .stepDrainLength) ∧
    (s.drain = true → s.state = .awaitAck → s.stepRow = .stepUnreachable1100) ∧
    (s.drain = true → s.state = .sendBody → s.stepRow = .stepDrainBody) ∧
    (s.drain = true → s.state = .done → s.stepRow = .stepUnreachable1110) ∧
    (s.drain = true → s.state = .error → s.stepRow = .stepUnreachable1111)

/-- R80, R87, R88: words written out in the spec decode to the operations they stand for. -/
def Obligations.SpecWordsDecode : Prop :=
  decodeTableWord 48 0x10400000001 = some (.wrCtrl 1) ∧
  decodeTableWord 48 0x00800000000 = some (.rdStatus 0) ∧
  decodeTableWord 48 0x11000000010 = some (.wrPayloadLen 16) ∧
  decodeTableWord 48 0x13D00000005 = some (.wrRsvd 0x3D 5) ∧
  decodeTableWord 48 0x12800000021 = some (.wrEvents 0x21) ∧
  decodeTableWord 8 0b1011 = some .stepDrainLength ∧
  decodeTableWord 8 0b0100 = some .stepAwaitAck

/-! ### Register reads -/

/-- R210, R211, R214, R216, R218, R220, R224, R226 to R228, R231, R233: the reads of one register each, the narrow
ones zero-extended; nothing else changes, and reading EVENTS does not clear it. -/
def Obligations.RegisterReads : Prop :=
  ∀ (d : Word) (s : State),
    decodeBus (busWord false 0x00 d) = .rdId d ∧ decodeBus (busWord false 0x04 d) = .rdCtrl d ∧
    decodeBus (busWord false 0x10 d) = .rdPayloadLen d ∧ decodeBus (busWord false 0x14 d) = .rdDeadline d ∧
    decodeBus (busWord false 0x18 d) = .rdPmemAddr d ∧ decodeBus (busWord false 0x20 d) = .rdScanCount d ∧
    decodeBus (busWord false 0x24 d) = .rdTxCount d ∧ decodeBus (busWord false 0x30 d) = .rdPayloadCap d ∧
    decodeBus (busWord false 0x38 d) = .rdStageCycles d ∧ decodeBus (busWord false 0x0C d) = .rdMode d ∧
    decodeBus (busWord false 0x28 d) = .rdEvents d ∧ decodeBus (busWord false 0x2C d) = .rdIrqEn d ∧
    exec (.rdId d) s = .next { s with busRdata := 0x52424845 } ∧
    exec (.rdCtrl d) s = .next { s with busRdata := 0x00000000 } ∧
    exec (.rdPayloadLen d) s = .next { s with busRdata := s.payloadLen } ∧
    exec (.rdDeadline d) s = .next { s with busRdata := s.deadline } ∧
    exec (.rdPmemAddr d) s = .next { s with busRdata := s.pmemAddr } ∧
    exec (.rdScanCount d) s = .next { s with busRdata := s.scanCount } ∧
    exec (.rdTxCount d) s = .next { s with busRdata := s.txCount } ∧
    exec (.rdPayloadCap d) s = .next { s with busRdata := s.cfg.payloadCap } ∧
    exec (.rdStageCycles d) s = .next { s with busRdata := s.stageCycles } ∧
    exec (.rdMode d) s = .next { s with busRdata := BitVec.ofNat 32 s.mode.toNat } ∧
    exec (.rdEvents d) s = .next { s with busRdata := BitVec.ofNat 32 s.events.toNat } ∧
    exec (.rdIrqEn d) s = .next { s with busRdata := BitVec.ofNat 32 s.irqEn.toNat }

/-- R39, R213: STATUS, field by field, each at its bits; the read has no side effect. -/
def Obligations.StatusReadLayout : Prop :=
  ∀ (d : Word) (s : State), decodeBus (busWord false 0x08 d) = .rdStatus d ∧
    ∃ v : Word, exec (.rdStatus d) s = .next { s with busRdata := v } ∧
    v.extractLsb' 0 3 = s.state.code ∧
    (v.getLsbD 3 = true ↔ s.state = .awaitReady ∨ s.state = .awaitTrigger ∨ s.state = .sendLength ∨
      s.state = .awaitAck ∨ s.state = .sendBody) ∧
    v.getLsbD 4 = s.diverged ∧ v.getLsbD 5 = s.drain ∧ v.extractLsb' 6 2 = 0 ∧
    v.extractLsb' 8 4 = s.errCause ∧ v.extractLsb' 12 3 = s.errState.code ∧ v.getLsbD 15 = false ∧
    v.extractLsb' 16 3 = s.lenIdx ∧ v.extractLsb' 19 13 = 0

/-- R38, R232: MARKER_INFO holds the three marker lengths; 0x238 with the default markers. -/
def Obligations.MarkerInfoRead : Prop :=
  (∀ d : Word, decodeBus (busWord false 0x34 d) = .rdMarkerInfo d) ∧
  (∀ (d : Word) (s : State), s.cfg.wf = true →
    ∃ v : Word, exec (.rdMarkerInfo d) s = .next { s with busRdata := v } ∧
      (v.extractLsb' 0 4).toNat = s.cfg.markerReady.length ∧
      (v.extractLsb' 4 4).toNat = s.cfg.markerTrigger.length ∧
      (v.extractLsb' 8 4).toNat = s.cfg.markerAck.length ∧ v.extractLsb' 12 20 = 0) ∧
  (∀ (d : Word) (s : State), s.cfg.markerReady = defaultReady → s.cfg.markerTrigger = defaultTrigger →
    s.cfg.markerAck = defaultAck → exec (.rdMarkerInfo d) s = .next { s with busRdata := 0x00000238 })

/-- R222: PMEM_DATA reads the byte at PMEM_ADDR, zero-extended, or 0 at or above PAYLOAD_CAP; PMEM_ADDR stays. The
byte is whatever PMEM holds there, the free value of an unwritten address included. -/
def Obligations.PmemDataRead : Prop :=
  ∀ (d : Word) (s : State),
    decodeBus (busWord false 0x1C d) = .rdPmemData d ∧
    (s.pmemAddr.toNat < s.cfg.payloadCap.toNat →
      exec (.rdPmemData d) s = .next { s with busRdata := BitVec.ofNat 32 (memRead s.pmem s.pmemAddr.toNat).toNat }) ∧
    (s.cfg.payloadCap.toNat ≤ s.pmemAddr.toNat → exec (.rdPmemData d) s = .next { s with busRdata := 0 })

/-- R234: a read at a misaligned offset or from 0x3C up returns 0, and nothing else changes. -/
def Obligations.ReservedReadsReturnZero : Prop :=
  ∀ (off : BitVec 8) (d : Word) (s : State),
    exec (.rdRsvd off d) s = .next { s with busRdata := 0 } ∧
    (off.extractLsb' 0 2 ≠ 0 ∨ 0x3C ≤ off →
      exec (decodeBus (busWord false off d)) s = .next { s with busRdata := 0 })

/-- R66, R290: a cycle whose transaction is a read ends in the state the same cycle without a transaction ends in,
but for `bus_rdata`. -/
def Obligations.ReadsLeaveNoTrace : Prop :=
  ∀ (s t : State) (i : CycleInput) (rest : List CycleInput),
    s.inputs = i :: rest → i.rst = false → i.busEn = true → i.busWe = false → step s = .next t →
    step { s with inputs := { i with busEn := false } :: rest } = .next { t with busRdata := 0 }

/-- R45, R70: `bus_rdata` in a cycle is what the read's row computes from the state at the start of the cycle, and 0 in
a cycle with no read. -/
def Obligations.BusRdataFromStartState : Prop :=
  ∀ s t : State, step s = .next t → s.input.rst = false →
    (s.input.busEn = true → s.input.busWe = false →
      ∃ u, exec (decodeBus (portWord s.input)) s = .next u ∧ t.busRdata = u.busRdata) ∧
    (s.input.busEn = false ∨ s.input.busWe = true → t.busRdata = 0)

/-! ### Register writes -/

/-- R217, R219, R221, R225: the four configuration writes store DATA while idle and do nothing while ACTIVE. -/
def Obligations.ConfigurationWrites : Prop :=
  ∀ (d : Word) (s : State),
    decodeBus (busWord true 0x0C d) = .wrMode d ∧ decodeBus (busWord true 0x10 d) = .wrPayloadLen d ∧
    decodeBus (busWord true 0x14 d) = .wrDeadline d ∧ decodeBus (busWord true 0x18 d) = .wrPmemAddr d ∧
    (s.state = .init ∨ s.state = .done ∨ s.state = .error →
      exec (.wrMode d) s = .next { s with mode := BitVec.ofNat 3 (d.toNat % 8) } ∧
      exec (.wrPayloadLen d) s = .next { s with payloadLen := d } ∧
      exec (.wrDeadline d) s = .next { s with deadline := d } ∧
      exec (.wrPmemAddr d) s = .next { s with pmemAddr := d }) ∧
    (s.state ≠ .init → s.state ≠ .done → s.state ≠ .error →
      exec (.wrMode d) s = .next s ∧ exec (.wrPayloadLen d) s = .next s ∧
      exec (.wrDeadline d) s = .next s ∧ exec (.wrPmemAddr d) s = .next s)

/-- R223: a PMEM_DATA write while idle stores DATA[7:0] at PMEM_ADDR if that is below PAYLOAD_CAP, leaves every other
byte, and advances PMEM_ADDR modulo 2^32; while ACTIVE it does nothing. -/
def Obligations.PmemDataWrite : Prop :=
  ∀ (d : Word) (s : State),
    decodeBus (busWord true 0x1C d) = .wrPmemData d ∧
    (s.state = .init ∨ s.state = .done ∨ s.state = .error →
      ∃ t, exec (.wrPmemData d) s = .next t ∧
        t = { s with pmem := t.pmem, pmemAddr := BitVec.ofNat 32 ((s.pmemAddr.toNat + 1) % 2 ^ 32) } ∧
        (s.pmemAddr.toNat < s.cfg.payloadCap.toNat →
          memRead t.pmem s.pmemAddr.toNat = BitVec.ofNat 8 (d.toNat % 256)) ∧
        (∀ a, a ≠ s.pmemAddr.toNat → memRead t.pmem a = memRead s.pmem a ∧ t.pmem.read? a = s.pmem.read? a) ∧
        (s.cfg.payloadCap.toNat ≤ s.pmemAddr.toNat → t.pmem = s.pmem)) ∧
    (s.state ≠ .init → s.state ≠ .done → s.state ≠ .error → exec (.wrPmemData d) s = .next s)

/-- R215: WR_EVENTS clears exactly the bits DATA[5:0] names, in every state, and nothing else changes. -/
def Obligations.EventsWriteOneToClear : Prop :=
  ∀ (d : Word) (s : State), decodeBus (busWord true 0x28 d) = .wrEvents d ∧
    ∃ t, exec (.wrEvents d) s = .next t ∧ t = { s with events := t.events } ∧
    ∀ k, k < 6 → t.events.getLsbD k = (s.events.getLsbD k && !d.getLsbD k)

/-- R229: WR_IRQ_EN stores DATA[5:0], in every state, and nothing else changes. -/
def Obligations.IrqEnableWrite : Prop :=
  ∀ (d : Word) (s : State), decodeBus (busWord true 0x2C d) = .wrIrqEn d ∧
    ∃ t, exec (.wrIrqEn d) s = .next t ∧ t = { s with irqEn := t.irqEn } ∧
    ∀ k, k < 6 → t.irqEn.getLsbD k = d.getLsbD k

/-- R230, R235: the writes to read-only and to reserved offsets have no effect in any state. -/
def Obligations.IgnoredWrites : Prop :=
  (∀ (d : Word) (s : State),
    decodeBus (busWord true 0x00 d) = .wrId d ∧ decodeBus (busWord true 0x08 d) = .wrStatus d ∧
    decodeBus (busWord true 0x20 d) = .wrScanCount d ∧ decodeBus (busWord true 0x24 d) = .wrTxCount d ∧
    decodeBus (busWord true 0x30 d) = .wrPayloadCap d ∧ decodeBus (busWord true 0x34 d) = .wrMarkerInfo d ∧
    decodeBus (busWord true 0x38 d) = .wrStageCycles d ∧
    exec (.wrId d) s = .next s ∧
    exec (.wrStatus d) s = .next s ∧
    exec (.wrScanCount d) s = .next s ∧
    exec (.wrTxCount d) s = .next s ∧
    exec (.wrPayloadCap d) s = .next s ∧
    exec (.wrMarkerInfo d) s = .next s ∧
    exec (.wrStageCycles d) s = .next s) ∧
  (∀ (off : BitVec 8) (d : Word) (s : State),
    exec (.wrRsvd off d) s = .next s ∧
    (off.extractLsb' 0 2 ≠ 0 ∨ 0x3C ≤ off → exec (decodeBus (busWord true off d)) s = .next s))

/-! ### Commands -/

/-- R182: START in INIT begins a session, or raises PAYLOAD_TOO_LARGE from INIT; elsewhere DATA[0] is ignored. -/
def Obligations.StartCommand : Prop :=
  ∀ (d : Word) (s : State), d.getLsbD 0 = true → decodeBus (busWord true 0x04 d) = .wrCtrl d ∧
    (s.state = .init → s.payloadLen.toNat ≤ s.cfg.payloadCap.toNat → exec (.wrCtrl d) s = .next { s with
      state := .awaitReady, lenIdx := 0, txCount := 0, drain := false, scanCount := 0,
      scanWin := List.replicate s.cfg.maxMarkerLen 0, diverged := false, stageCycles := 0,
      scanBuf := [], sessTx := [] }) ∧
    (s.state = .init → s.cfg.payloadCap.toNat < s.payloadLen.toNat → exec (.wrCtrl d) s = .next { s with
      errState := .init, errCause := 5, state := .error, drain := false, events := s.events ||| 0b100000 }) ∧
    (s.state ≠ .init → ∀ e : Word, e.getLsbD 1 = d.getLsbD 1 → e.getLsbD 2 = d.getLsbD 2 →
      exec (.wrCtrl d) s = exec (.wrCtrl e) s)

/-- R183: ABORT in an ACTIVE state is the CANCELLED error, in place of the STEP row of its cycle; elsewhere DATA[1] is
ignored. -/
def Obligations.AbortCommand : Prop :=
  ∀ (d : Word) (s : State), d.getLsbD 1 = true → decodeBus (busWord true 0x04 d) = .wrCtrl d ∧
    (s.active = true → exec (.wrCtrl d) s = .next { s with
      errState := s.state, errCause := 4, state := .error, drain := false, events := s.events ||| 0b100000 }) ∧
    (s.active = true → s.legal = true → s.input.rst = false → s.busRow? = some (.wrCtrl d) →
      step s = .next (s.endCycle { s with
        errState := s.state, errCause := 4, state := .error, drain := false, events := s.events ||| 0b100000,
        busRdata := 0 })) ∧
    (s.active = false → ∀ e : Word, e.getLsbD 0 = d.getLsbD 0 → e.getLsbD 2 = d.getLsbD 2 →
      exec (.wrCtrl d) s = exec (.wrCtrl e) s)

/-- R184: CLEAR in DONE or ERROR returns to INIT with the session registers cleared and the configuration, PMEM, EVENTS
and IRQ_EN kept; elsewhere DATA[2] is ignored. -/
def Obligations.ClearCommand : Prop :=
  ∀ (d : Word) (s : State), d.getLsbD 2 = true → decodeBus (busWord true 0x04 d) = .wrCtrl d ∧
    (s.state = .done ∨ s.state = .error → exec (.wrCtrl d) s = .next { s with
      state := .init, errCause := 0, errState := .init, drain := false, lenIdx := 0, txCount := 0,
      scanCount := 0, scanWin := List.replicate s.cfg.maxMarkerLen 0, diverged := false, stageCycles := 0,
      scanBuf := [] }) ∧
    (s.state ≠ .done → s.state ≠ .error → ∀ e : Word, e.getLsbD 0 = d.getLsbD 0 → e.getLsbD 1 = d.getLsbD 1 →
      exec (.wrCtrl d) s = exec (.wrCtrl e) s)

/-- R212: without a command bit whose condition holds, WR_CTRL does nothing. -/
def Obligations.CtrlWithoutCommand : Prop :=
  ∀ (d : Word) (s : State),
    (s.state = .init → d.getLsbD 0 = false) → (s.active = true → d.getLsbD 1 = false) →
    (s.state = .done ∨ s.state = .error → d.getLsbD 2 = false) → exec (.wrCtrl d) s = .next s

/-! ### The scanner and the AWAIT rows -/

/-- R100 to R103: the scanner's functions on the registers: a stage starts fresh; DIVERGED after a byte; the two match
tests, position by position. -/
def Obligations.ScannerFunctions : Prop :=
  (∀ s : State, s.scanEnter = { s with
    scanCount := 0, scanWin := List.replicate s.cfg.maxMarkerLen 0, diverged := false, stageCycles := 0,
    scanBuf := [] }) ∧
  (∀ (s : State) (g : Stage) (b : Byte),
    (g.exact s.mode = false → s.nextDiverged g b = false) ∧
    (g.exact s.mode = true → (s.nextDiverged g b = true ↔ s.diverged = true ∨
      ∃ h : s.scanCount.toNat < (g.marker s.cfg).length, b ≠ (g.marker s.cfg)[s.scanCount.toNat]))) ∧
  (∀ (t : State) (g : Stage), g.exact t.mode = true →
    (t.scanMatched g = true ↔ t.diverged = false ∧ t.scanCount.toNat = (g.marker t.cfg).length)) ∧
  (∀ (t : State) (g : Stage), g.exact t.mode = false → t.scanWin.length = t.cfg.maxMarkerLen →
    (g.marker t.cfg).length ≤ t.cfg.maxMarkerLen →
    (t.scanMatched g = true ↔ (g.marker t.cfg).length ≤ t.scanCount.toNat ∧
      ∀ j, j < (g.marker t.cfg).length →
        t.scanWin[t.cfg.maxMarkerLen - (g.marker t.cfg).length + j]? = (g.marker t.cfg)[j]?))

/-- R131 with R135: the ready stage's row, in its five cases; a match enters AWAIT_TRIGGER on a fresh ScanBuffer. -/
def Obligations.AwaitReadyRow : Prop :=
  ∀ s : State,
    let inc := BitVec.ofNat 32 (min (s.stageCycles.toNat + 1) (2 ^ 32 - 1))
    let byteTaken : State :=
      { s with
        stageCycles := inc
        scanCount := BitVec.ofNat 32 (min (s.scanCount.toNat + 1) (2 ^ 32 - 1))
        scanWin := s.scanWin.tail ++ [s.input.rxData]
        diverged := s.nextDiverged .ready s.input.rxData
        scanBuf := s.scanBuf ++ [s.input.rxData] }
    decodeStep 0b0001 = .stepAwaitReady ∧
    (s.input.rxErr = true → exec .stepAwaitReady s = .next { s with
      errState := s.state, errCause := 1, state := .error, drain := false, events := s.events ||| 0b100000 }) ∧
    (s.input.rxErr = false → s.deadline ≠ 0 → s.deadline ≤ s.stageCycles → exec .stepAwaitReady s = .next { s with
      errState := s.state, errCause := 3, state := .error, drain := false, events := s.events ||| 0b100000 }) ∧
    (s.input.rxErr = false → (s.deadline = 0 ∨ s.stageCycles < s.deadline) → s.input.rxValid = false →
      exec .stepAwaitReady s = .next { s with stageCycles := inc }) ∧
    (s.input.rxErr = false → (s.deadline = 0 ∨ s.stageCycles < s.deadline) → s.input.rxValid = true →
      byteTaken.scanMatched .ready = false → exec .stepAwaitReady s = .next byteTaken) ∧
    (s.input.rxErr = false → (s.deadline = 0 ∨ s.stageCycles < s.deadline) → s.input.rxValid = true →
      byteTaken.scanMatched .ready = true → exec .stepAwaitReady s = .next { byteTaken with
        state := .awaitTrigger
        scanCount := 0
        scanWin := List.replicate s.cfg.maxMarkerLen 0
        diverged := false
        stageCycles := 0
        scanBuf := []
        events := s.events ||| 0b000001 })

/-- R132 with R135: the trigger stage's row, in its five cases; a match enters SEND_LENGTH and keeps the
scanner registers. -/
def Obligations.AwaitTriggerRow : Prop :=
  ∀ s : State,
    let inc := BitVec.ofNat 32 (min (s.stageCycles.toNat + 1) (2 ^ 32 - 1))
    let byteTaken : State :=
      { s with
        stageCycles := inc
        scanCount := BitVec.ofNat 32 (min (s.scanCount.toNat + 1) (2 ^ 32 - 1))
        scanWin := s.scanWin.tail ++ [s.input.rxData]
        diverged := s.nextDiverged .trigger s.input.rxData
        scanBuf := s.scanBuf ++ [s.input.rxData] }
    decodeStep 0b0010 = .stepAwaitTrigger ∧
    (s.input.rxErr = true → exec .stepAwaitTrigger s = .next { s with
      errState := s.state, errCause := 1, state := .error, drain := false, events := s.events ||| 0b100000 }) ∧
    (s.input.rxErr = false → s.deadline ≠ 0 → s.deadline ≤ s.stageCycles → exec .stepAwaitTrigger s = .next { s with
      errState := s.state, errCause := 3, state := .error, drain := false, events := s.events ||| 0b100000 }) ∧
    (s.input.rxErr = false → (s.deadline = 0 ∨ s.stageCycles < s.deadline) → s.input.rxValid = false →
      exec .stepAwaitTrigger s = .next { s with stageCycles := inc }) ∧
    (s.input.rxErr = false → (s.deadline = 0 ∨ s.stageCycles < s.deadline) → s.input.rxValid = true →
      byteTaken.scanMatched .trigger = false → exec .stepAwaitTrigger s = .next byteTaken) ∧
    (s.input.rxErr = false → (s.deadline = 0 ∨ s.stageCycles < s.deadline) → s.input.rxValid = true →
      byteTaken.scanMatched .trigger = true → exec .stepAwaitTrigger s = .next { byteTaken with
        state := .sendLength
        drain := false
        events := s.events ||| 0b000010 })

/-- R133 with R135: the acknowledgement stage's row, in its five cases; a match enters SEND_BODY, draining
at once for an empty payload (R153). -/
def Obligations.AwaitAckRow : Prop :=
  ∀ s : State,
    let inc := BitVec.ofNat 32 (min (s.stageCycles.toNat + 1) (2 ^ 32 - 1))
    let byteTaken : State :=
      { s with
        stageCycles := inc
        scanCount := BitVec.ofNat 32 (min (s.scanCount.toNat + 1) (2 ^ 32 - 1))
        scanWin := s.scanWin.tail ++ [s.input.rxData]
        diverged := s.nextDiverged .ack s.input.rxData
        scanBuf := s.scanBuf ++ [s.input.rxData] }
    decodeStep 0b0100 = .stepAwaitAck ∧
    (s.input.rxErr = true → exec .stepAwaitAck s = .next { s with
      errState := s.state, errCause := 1, state := .error, drain := false, events := s.events ||| 0b100000 }) ∧
    (s.input.rxErr = false → s.deadline ≠ 0 → s.deadline ≤ s.stageCycles → exec .stepAwaitAck s = .next { s with
      errState := s.state, errCause := 3, state := .error, drain := false, events := s.events ||| 0b100000 }) ∧
    (s.input.rxErr = false → (s.deadline = 0 ∨ s.stageCycles < s.deadline) → s.input.rxValid = false →
      exec .stepAwaitAck s = .next { s with stageCycles := inc }) ∧
    (s.input.rxErr = false → (s.deadline = 0 ∨ s.stageCycles < s.deadline) → s.input.rxValid = true →
      byteTaken.scanMatched .ack = false → exec .stepAwaitAck s = .next byteTaken) ∧
    (s.input.rxErr = false → (s.deadline = 0 ∨ s.stageCycles < s.deadline) → s.input.rxValid = true →
      byteTaken.scanMatched .ack = true → exec .stepAwaitAck s = .next { byteTaken with
        state := .sendBody
        txCount := 0
        drain := decide (s.payloadLen = 0)
        events := s.events ||| 0b001000 })

/-- R106: fed any bytes on a fresh ScanBuffer, of which no shorter part satisfies the stage's reference predicate, the
registers report a match at the last byte exactly when all of them satisfy it. -/
def Obligations.ScannerEqualsReference : Prop :=
  ∀ (s : State) (g : Stage) (bytes : List Byte), s.cfg.wf = true → bytes ≠ [] →
    (∀ k, k < bytes.length → ¬ g.satisfied s (bytes.take k)) →
    ((bytes.foldl (fun t b => t.scanAppend g b) s.scanEnter).scanMatched g = true ↔ g.satisfied s bytes)

/-- R104, R105, R106: in a legal AWAIT state, a cycle that consumes a byte without an error leaves for the next state
exactly when the ScanBuffer with that byte satisfies the stage; otherwise the byte is in the ScanBuffer. -/
def Obligations.StageLeavesExactlyOnMarker : Prop :=
  ∀ (s : State) (g : Stage), s.legal = true → s.state = g.state → s.input.rxErr = false →
    (s.deadline = 0 ∨ s.stageCycles < s.deadline) → s.input.rxValid = true →
    ∃ t, exec g.row s = .next t ∧
      (g.satisfied s (s.scanBuf ++ [s.input.rxData]) → t.state = g.nextState) ∧
      (¬ g.satisfied s (s.scanBuf ++ [s.input.rxData]) →
        t.state = s.state ∧ t.scanBuf = s.scanBuf ++ [s.input.rxData])

/-- R108: in exact mode, once DIVERGED is set no later byte matches and it stays set; and once more than M bytes are
consumed none ever will. -/
def Obligations.DivergedNeverMatches : Prop :=
  ∀ (s : State) (g : Stage) (bytes : List Byte), s.cfg.wf = true → g.exact s.mode = true → bytes ≠ [] →
    let t := bytes.foldl (fun t b => t.scanAppend g b) s
    (s.diverged = true → t.diverged = true ∧ t.scanMatched g = false) ∧
    ((g.marker s.cfg).length ≤ s.scanCount.toNat → t.scanMatched g = false)

/-! ### The SEND and DRAIN rows -/

/-- R150, R156: the length prefix and its reading are inverse, both ways. -/
def Obligations.LengthPrefixRoundTrip : Prop :=
  (∀ l : Word, deserLen (lenByte l 0) (lenByte l 1) (lenByte l 2) (lenByte l 3) = l.toNat) ∧
  (∀ b0 b1 b2 b3 : Byte, serLen (BitVec.ofNat 32 (deserLen b0 b1 b2 b3)) = [b0, b1, b2, b3] ∧
    deserLen b0 b1 b2 b3 < 2 ^ 32)

/-- R151: STEP_SEND_LENGTH, its outputs and its three cases. -/
def Obligations.SendLengthRow : Prop :=
  ∀ s : State, decodeStep 0b0011 = .stepSendLength ∧
    (s.state = .sendLength → s.drain = false → s.txValid = true ∧ s.txData = lenByte s.payloadLen s.lenIdx.toNat ∧
      s.txFlush = false ∧ s.rxReady = false) ∧
    (s.input.txErr = true → exec .stepSendLength s = .next { s with
      errState := s.state, errCause := 2, state := .error, drain := false, events := s.events ||| 0b100000 }) ∧
    (s.input.txErr = false → s.input.txReady = false → exec .stepSendLength s = .next s) ∧
    (s.input.txErr = false → s.input.txReady = true → s.lenIdx ≠ 3 →
      exec .stepSendLength s = .next { s with lenIdx := s.lenIdx + 1 }) ∧
    (s.input.txErr = false → s.input.txReady = true → s.lenIdx = 3 →
      exec .stepSendLength s = .next { s with lenIdx := 4, drain := true })

/-- R152: STEP_DRAIN_LENGTH, its outputs and its three cases. -/
def Obligations.DrainLengthRow : Prop :=
  ∀ s : State, decodeStep 0b1011 = .stepDrainLength ∧
    (s.state = .sendLength → s.drain = true → s.txValid = false ∧ s.txFlush = true ∧ s.rxReady = false) ∧
    (s.input.txErr = true → exec .stepDrainLength s = .next { s with
      errState := s.state, errCause := 2, state := .error, drain := false, events := s.events ||| 0b100000 }) ∧
    (s.input.txErr = false → s.input.txDrained = false → exec .stepDrainLength s = .next s) ∧
    (s.input.txErr = false → s.input.txDrained = true → exec .stepDrainLength s = .next { s with
      state := .awaitAck, drain := false, events := s.events ||| 0b000100, scanCount := 0,
      scanWin := List.replicate s.cfg.maxMarkerLen 0, diverged := false, stageCycles := 0, scanBuf := [] })

/-- R154: STEP_SEND_BODY, its outputs and its three cases. -/
def Obligations.SendBodyRow : Prop :=
  ∀ s : State, decodeStep 0b0101 = .stepSendBody ∧
    (s.state = .sendBody → s.drain = false → s.txValid = true ∧ s.txData = memRead s.pmem s.txCount.toNat ∧
      s.txFlush = false ∧ s.rxReady = false) ∧
    (s.input.txErr = true → exec .stepSendBody s = .next { s with
      errState := s.state, errCause := 2, state := .error, drain := false, events := s.events ||| 0b100000 }) ∧
    (s.input.txErr = false → s.input.txReady = false → exec .stepSendBody s = .next s) ∧
    (s.input.txErr = false → s.input.txReady = true → s.txCount + 1 ≠ s.payloadLen →
      exec .stepSendBody s = .next { s with txCount := s.txCount + 1 }) ∧
    (s.input.txErr = false → s.input.txReady = true → s.txCount + 1 = s.payloadLen →
      exec .stepSendBody s = .next { s with txCount := s.txCount + 1, drain := true })

/-- R155: STEP_DRAIN_BODY, its outputs and its three cases. -/
def Obligations.DrainBodyRow : Prop :=
  ∀ s : State, decodeStep 0b1101 = .stepDrainBody ∧
    (s.state = .sendBody → s.drain = true → s.txValid = false ∧ s.txFlush = true ∧ s.rxReady = false) ∧
    (s.input.txErr = true → exec .stepDrainBody s = .next { s with
      errState := s.state, errCause := 2, state := .error, drain := false, events := s.events ||| 0b100000 }) ∧
    (s.input.txErr = false → s.input.txDrained = false → exec .stepDrainBody s = .next s) ∧
    (s.input.txErr = false → s.input.txDrained = true → exec .stepDrainBody s = .next { s with
      state := .done, drain := false, events := s.events ||| 0b010000 })

/-! ### The idle and the unreachable rows -/

/-- R181, R185, R186: the rows of INIT, DONE and ERROR write nothing, and the outputs there. -/
def Obligations.IdleRows : Prop :=
  (decodeStep 0b0000 = .stepInit ∧ decodeStep 0b0110 = .stepDone ∧ decodeStep 0b0111 = .stepError) ∧
  (∀ s : State, exec .stepInit s = .next s ∧ exec .stepDone s = .next s ∧ exec .stepError s = .next s) ∧
  (∀ s : State, s.state = .init ∨ s.state = .done ∨ s.state = .error →
    s.rxReady = false ∧ s.txValid = false ∧ s.txFlush = false ∧ s.linkOwned = false ∧
    (s.handoff = true ↔ s.state = .done))

/-- R86, R188: the six unreachable rows fault. -/
def Obligations.UnreachableRowsFault : Prop :=
  ∀ s : State,
    decodeStep 0b1000 = .stepUnreachable1000 ∧ decodeStep 0b1001 = .stepUnreachable1001 ∧
    decodeStep 0b1010 = .stepUnreachable1010 ∧ decodeStep 0b1100 = .stepUnreachable1100 ∧
    decodeStep 0b1110 = .stepUnreachable1110 ∧ decodeStep 0b1111 = .stepUnreachable1111 ∧
    exec .stepUnreachable1000 s = .fault .invariantViolated ∧
    exec .stepUnreachable1001 s = .fault .invariantViolated ∧
    exec .stepUnreachable1010 s = .fault .invariantViolated ∧
    exec .stepUnreachable1100 s = .fault .invariantViolated ∧
    exec .stepUnreachable1110 s = .fault .invariantViolated ∧
    exec .stepUnreachable1111 s = .fault .invariantViolated

/-- R188, U4: from a state that violates R50 a cycle without reset faults with InvariantViolated; a build that R6 does
not allow is refused. (That reset and the refusal come before this fault is the model's choice: log entry 8.) -/
def Obligations.IllegalStatesStop : Prop :=
  (∀ s : State, s.cfg.wf = true → s.input.rst = false → ¬ s.R50 → step s = .fault .invariantViolated) ∧
  (∀ s : State, s.cfg.wf = false → step s = .refused .badConfiguration)

/-! ### Outputs -/

/-- R41: every output other than `bus_rdata`, from the state. -/
def Obligations.PortOutputs : Prop :=
  ∀ s : State,
    (s.rxReady = true ↔ s.state = .awaitReady ∨ s.state = .awaitTrigger ∨ s.state = .awaitAck) ∧
    (s.txValid = true ↔ (s.state = .sendLength ∨ s.state = .sendBody) ∧ s.drain = false) ∧
    (s.state = .sendLength → s.drain = false → s.txData = s.payloadLen.extractLsb' (8 * s.lenIdx.toNat) 8) ∧
    (s.state = .sendBody → s.drain = false → s.txData = memRead s.pmem s.txCount.toNat) ∧
    (s.txValid = false → s.txData = 0) ∧
    (s.txFlush = true ↔ (s.state = .sendLength ∨ s.state = .sendBody) ∧ s.drain = true) ∧
    (s.irq = true ↔ ∃ k, k < 6 ∧ s.events.getLsbD k = true ∧ s.irqEn.getLsbD k = true) ∧
    (s.linkOwned = true ↔ s.state ≠ .init ∧ s.state ≠ .done ∧ s.state ≠ .error) ∧
    (s.handoff = true ↔ s.state = .done)

/-! ### The cycle -/

/-- R180 in the model's sequential reading (log entries 1 and 7: the STEP row runs on the state the BUS row left, and
ABORT's error entry is made in the BUS row, where R180 has every row read the start state): a cycle without reset from a
state that satisfies R50 runs its BUS row, if there is one, and then, unless ABORT acts, the
STEP row of its start state; the ports' events are recorded and the cycle's inputs used up. -/
def Obligations.StepRunsTheDecodedRows : Prop :=
  ∀ s : State, s.cfg.wf = true → s.R50 → s.input.rst = false →
    (s.input.busEn = false → step s = andThen (exec (decodeStep s.selector) { s with busRdata := 0 })
      fun u => .next (s.endCycle u)) ∧
    (s.input.busEn = true → s.abortsNow = false →
      step s = andThen (exec (decodeBus (portWord s.input)) { s with busRdata := 0 })
        fun t => andThen (exec (decodeStep s.selector) t) fun u => .next (s.endCycle u)) ∧
    (s.input.busEn = true → s.abortsNow = true →
      step s = andThen (exec (decodeBus (portWord s.input)) { s with busRdata := 0 })
        fun t => .next (s.endCycle t))

/-- R280, R281: a cycle with `rst` leads, from any state (also one that violates R50, where reset coming before R188's
fault is the model's choice: log entry 8) and whatever the other inputs, to ResetState, with the build
and PMEM kept; STATUS reads 0 and the outputs of R282 hold there. -/
def Obligations.ResetCycle : Prop :=
  ∀ s : State, s.cfg.wf = true → s.input.rst = true → ∃ t, step s = .next t ∧
    t.state = .init ∧ t.drain = false ∧ t.lenIdx = 0 ∧ t.txCount = 0 ∧ t.scanCount = 0 ∧
    t.scanWin = List.replicate s.cfg.maxMarkerLen 0 ∧ t.diverged = false ∧ t.stageCycles = 0 ∧
    t.errCause = 0 ∧ t.errState = .init ∧ t.mode = 0 ∧ t.payloadLen = 0 ∧ t.deadline = 0 ∧ t.pmemAddr = 0 ∧
    t.events = 0 ∧ t.irqEn = 0 ∧ t.pmem = s.pmem ∧ t.cfg = s.cfg ∧ t.statusWord = 0 ∧
    t.rxReady = false ∧ t.txValid = false ∧ t.txData = 0 ∧ t.txFlush = false ∧ t.irq = false ∧
    t.linkOwned = false ∧ t.handoff = false

/-- R280: the registers of the reset state. -/
def Obligations.ResetStateRegisters : Prop :=
  State.reset.state = .init ∧ State.reset.drain = false ∧ State.reset.lenIdx = 0 ∧ State.reset.txCount = 0 ∧
  State.reset.scanCount = 0 ∧ State.reset.scanWin = List.replicate State.reset.cfg.maxMarkerLen 0 ∧
  State.reset.diverged = false ∧ State.reset.stageCycles = 0 ∧ State.reset.errCause = 0 ∧
  State.reset.errState = .init ∧ State.reset.mode = 0 ∧ State.reset.payloadLen = 0 ∧ State.reset.deadline = 0 ∧
  State.reset.pmemAddr = 0 ∧ State.reset.events = 0 ∧ State.reset.irqEn = 0 ∧ State.reset.statusWord = 0

/-- R50, and the invariant that every step keeps, hold at reset. -/
def Obligations.ResetIsLegal : Prop := State.reset.legal = true ∧ State.reset.R50

/-- R50: every step from a legal state that goes on ends in a legal state (R50 but for what its items 4 and 5 say of
DONE, strengthened so that it is inductive); and in one that satisfies all of R50, unless the cycle is a WR_PAYLOAD_LEN in
DONE with another value than TX_COUNT, which takes effect there (log entry 6). -/
def Obligations.LegalIsKept : Prop :=
  ∀ s t : State, s.legal = true → step s = .next t →
    t.legal = true ∧
    ((s.state = .done → ∀ d, s.busRow? = some (.wrPayloadLen d) → d = s.txCount) → t.R50)

/-- R45, R250: no input stops a state that satisfies R50, in a build that R6 allows: every cycle completes. -/
def Obligations.LegalStatesGoOn : Prop :=
  ∀ s : State, s.cfg.wf = true → s.R50 → ∃ t, step s = .next t

/-- R187: the transition graph: a cycle without reset follows an arrow or stays; reset leads to INIT. -/
def Obligations.TransitionGraph : Prop :=
  ∀ s t : State, step s = .next t →
    (s.input.rst = false → arrow s.state t.state = true) ∧ (s.input.rst = true → t.state = .init)

/-- R74, R287, R43: a cycle without reset in an ACTIVE state changes neither PAYLOAD_LEN, MODE, DEADLINE, PMEM_ADDR nor
PMEM; no cycle changes the build. -/
def Obligations.SessionDataFrozen : Prop :=
  ∀ s t : State, step s = .next t →
    t.cfg = s.cfg ∧
    (s.input.rst = false → s.active = true →
      t.payloadLen = s.payloadLen ∧ t.mode = s.mode ∧ t.deadline = s.deadline ∧ t.pmemAddr = s.pmemAddr ∧
      t.pmem = s.pmem)

/-- R180, R292: a host write in an ACTIVE state, other than an acting ABORT, leaves the engine's cycle as it is without
the transaction: only EVENTS and IRQ_EN can differ. -/
def Obligations.HostWritesDoNotSteerTheEngine : Prop :=
  ∀ (s t : State) (i : CycleInput) (rest : List CycleInput),
    s.inputs = i :: rest → i.rst = false → i.busEn = true → i.busWe = true → s.active = true →
    s.abortsNow = false → step s = .next t →
    ∃ u, step { s with inputs := { i with busEn := false } :: rest } = .next u ∧
      t = { u with events := t.events, irqEn := t.irqEn }

/-- R36, R215: in a cycle with WR_EVENTS, the bits DATA names are cleared and then the bits the STEP row raises (those a
cycle from EVENTS = 0 without the write ends with) are set: the set wins. -/
def Obligations.EventSetWinsOverClear : Prop :=
  ∀ (s t u : State) (i : CycleInput) (rest : List CycleInput) (d : Word),
    s.inputs = i :: rest → i.rst = false → s.busRow? = some (.wrEvents d) → step s = .next t →
    step { s with events := 0, inputs := { i with busEn := false } :: rest } = .next u →
    ∀ k, k < 6 → t.events.getLsbD k = ((s.events.getLsbD k && !d.getLsbD k) || u.events.getLsbD k)

/-- R109, R262: EVENTS and IRQ_EN steer nothing: from states that differ only there, a cycle ends in states that differ
only there and in `bus_rdata`. -/
def Obligations.EventsSteerNothing : Prop :=
  ∀ (s t : State) (ev en : BitVec 6), step s = .next t →
    ∃ u, step { s with events := ev, irqEn := en } = .next u ∧
      u = { t with events := u.events, irqEn := u.irqEn, busRdata := u.busRdata }

/-! ### Errors -/

/-- R258: a step that enters ERROR saves STATE in ERR_STATE and a cause of R251 in ERR_CAUSE, clears DRAIN, sets
EVENTS.ERROR, and holds the scanner, STAGE_CYCLES, LEN_IDX and TX_COUNT. -/
def Obligations.ErrorEntrySavesState : Prop :=
  ∀ s t : State, step s = .next t → s.state ≠ .error → t.state = .error →
    t.errState = s.state ∧ 1 ≤ t.errCause.toNat ∧ t.errCause.toNat ≤ 5 ∧ t.drain = false ∧
    t.events.getLsbD 5 = true ∧ t.scanCount = s.scanCount ∧ t.scanWin = s.scanWin ∧ t.diverged = s.diverged ∧
    t.stageCycles = s.stageCycles ∧ t.lenIdx = s.lenIdx ∧ t.txCount = s.txCount

/-- R259: the priority of what falls in one cycle: ABORT, then the transport error of the state's direction, then the
deadline, then the normal row. -/
def Obligations.ErrorPriority : Prop :=
  ∀ s t : State, step s = .next t → s.input.rst = false →
    (s.abortsNow = true → t.state = .error ∧ t.errCause = 4) ∧
    (s.abortsNow = false → s.rxReady = true → s.input.rxErr = true → t.state = .error ∧ t.errCause = 1) ∧
    (s.abortsNow = false → s.sending = true → s.input.txErr = true → t.state = .error ∧ t.errCause = 2) ∧
    (s.abortsNow = false → s.rxReady = true → s.input.rxErr = false → s.deadline ≠ 0 →
      s.deadline ≤ s.stageCycles → t.state = .error ∧ t.errCause = 3) ∧
    (s.abortsNow = false → s.rxReady = true → s.input.rxErr = false →
      s.deadline = 0 ∨ s.stageCycles < s.deadline → t.state ≠ .error) ∧
    (s.abortsNow = false → s.sending = true → s.input.txErr = false → t.state ≠ .error)

/-- R261: errors do not nest, and the only ways out of ERROR are CLEAR and reset: a cycle from ERROR stays there with
the record of the error untouched, or ends in INIT. -/
def Obligations.ErrorsDoNotNest : Prop :=
  ∀ s t : State, step s = .next t → s.state = .error →
    (t.state = .error ∧ t.errCause = s.errCause ∧ t.errState = s.errState ∧ t.scanCount = s.scanCount ∧
      t.diverged = s.diverged ∧ t.stageCycles = s.stageCycles ∧ t.lenIdx = s.lenIdx ∧ t.txCount = s.txCount) ∨
    (t.state = .init ∧ (s.input.rst = true ∨ ∃ d, s.busRow? = some (.wrCtrl d) ∧ d.getLsbD 2 = true))

/-- R254: in a stage with a deadline STAGE_CYCLES never passes DEADLINE: every step keeps that. -/
def Obligations.DeadlineBoundKept : Prop :=
  ∀ s t : State, s.deadlineKept → step s = .next t → t.deadlineKept

/-- R254: a stage with DEADLINE = D ends within its first D + 1 cycles, whatever the agents do: from a cycle of it
with STAGE_CYCLES = c, within D + 1 - c cycles. -/
def Obligations.DeadlineEndsStage : Prop :=
  ∀ (n : Nat) (s : State) (g : Stage), s.legal = true → s.state = g.state → s.deadline ≠ 0 →
    s.stageCycles.toNat ≤ s.deadline.toNat → s.deadline.toNat < s.stageCycles.toNat + n →
    ∃ k, k ≤ n ∧ ∃ u : State, Host.Core.run Sys2Proof.core k s = .next u ∧ u.state ≠ g.state

/-! ### The wire -/

/-- R12, R46, R47: whatever else it does, a cycle consumes the RX byte offered exactly in the AWAIT states, and adds to
the TX trace the byte handed over, or the completed drain, or nothing. -/
def Obligations.PortEventsRecorded : Prop :=
  ∀ s t : State, step s = .next t →
    t.rxTaken = s.rxTaken ++
      (if s.input.rxValid = true ∧ (s.state = .awaitReady ∨ s.state = .awaitTrigger ∨ s.state = .awaitAck)
       then [s.input.rxData] else []) ∧
    t.txTrace = s.txTrace ++
      (if s.txValid = true ∧ s.input.txReady = true ∧ s.input.txErr = false then [.byte s.txData]
       else if s.txFlush = true ∧ s.input.txDrained = true ∧ s.input.txErr = false then [.drained] else [])

/-- R71: while a session runs, its part of the TX trace is what LEN_IDX, TX_COUNT and the state say, byte for byte and
drain for drain: every step from a legal state keeps that. -/
def Obligations.SessionTraceKept : Prop :=
  ∀ s t : State, s.legal = true → s.traceAgrees → step s = .next t → t.traceAgrees

/-- R71, R157, R158: a session that reaches DONE has put exactly this on the wire: four length bytes, a drain, the body
bytes PMEM[0 .. PAYLOAD_LEN-1] in order, a drain; the length read from the four bytes is the number of body bytes. -/
def Obligations.FinishedSessionWireOrder : Prop :=
  ∀ s t : State, s.legal = true → s.traceAgrees → step s = .next t → s.state ≠ .done → t.state = .done →
    ∃ (b0 b1 b2 b3 : Byte) (body : List Byte),
      t.sessTx = [.byte b0, .byte b1, .byte b2, .byte b3, .drained] ++ body.map .byte ++ [.drained] ∧
      deserLen b0 b1 b2 b3 = body.length ∧ body.length = t.payloadLen.toNat ∧
      ∀ k, k < body.length → body[k]? = some (memRead t.pmem k)

/-- R71: a session that ends in ERROR has put a prefix of the wire order on the wire. -/
def Obligations.AbortedSessionWirePrefix : Prop :=
  ∀ s t : State, s.legal = true → s.traceAgrees → step s = .next t → s.active = true → t.state = .error →
    t.sessTx <+: s.wireOrder

/-- R72: AWAIT_ACK is entered only in a cycle in which the transport reports the length drained, and SEND_BODY only
from AWAIT_ACK, DONE only in a cycle in which the body drained. -/
def Obligations.DrainIsTheBarrier : Prop :=
  ∀ s t : State, step s = .next t →
    (s.state ≠ .awaitAck → t.state = .awaitAck →
      s.state = .sendLength ∧ s.txFlush = true ∧ s.input.txDrained = true ∧ s.lenIdx = 4) ∧
    (s.state ≠ .sendBody → t.state = .sendBody → s.state = .awaitAck) ∧
    (s.state ≠ .done → t.state = .done →
      s.state = .sendBody ∧ s.txFlush = true ∧ s.input.txDrained = true ∧ s.txCount = s.payloadLen)

/-- R284 item 2, an assumption on the transport: under it a byte offered is consumed in this cycle or offered again in
the next; none is lost between cycles. -/
def Obligations.OfferedByteIsNotLost : Prop :=
  ∀ s t : State, s.rxDuty → s.input.rxValid = true → step s = .next t →
    t.rxTaken = s.rxTaken ++ [s.input.rxData] ∨
    (t.rxTaken = s.rxTaken ∧ t.input.rxValid = true ∧ t.input.rxData = s.input.rxData)

/-- How the model takes R219 and R188 together, log entry 6: in DONE a WR_PAYLOAD_LEN takes effect (R219) and the machine
stays legal; if the value is not TX_COUNT that ends R50 item 5, and the next cycle without reset faults (R188). -/
def Obligations.LengthMayChangeInDone : Prop :=
  ∀ (s : State) (d : Word), s.legal = true → s.R50 → s.state = .done → s.input.rst = false →
    s.busRow? = some (.wrPayloadLen d) →
    ∃ t, step s = .next t ∧ t.legal = true ∧ t.state = .done ∧ t.payloadLen = d ∧ t.txCount = s.txCount ∧
      (d = s.txCount → t.R50) ∧ (d ≠ s.txCount → t.input.rst = false → step t = .fault .invariantViolated)
end

