-- ==== Sys2Proof/Laws/State.lean ====
section
/-! SUPPORT. Every field after every named update of State, true by rfl, for the simplifier. -/

namespace Sys2Proof.Machine

variable (s : State)

@[simp] theorem withRdata_cfg (v : Word) : (s.withRdata v).cfg = s.cfg := rfl
@[simp] theorem withRdata_state (v : Word) : (s.withRdata v).state = s.state := rfl
@[simp] theorem withRdata_drain (v : Word) : (s.withRdata v).drain = s.drain := rfl
@[simp] theorem withRdata_lenIdx (v : Word) : (s.withRdata v).lenIdx = s.lenIdx := rfl
@[simp] theorem withRdata_txCount (v : Word) : (s.withRdata v).txCount = s.txCount := rfl
@[simp] theorem withRdata_scanCount (v : Word) : (s.withRdata v).scanCount = s.scanCount := rfl
@[simp] theorem withRdata_scanWin (v : Word) : (s.withRdata v).scanWin = s.scanWin := rfl
@[simp] theorem withRdata_diverged (v : Word) : (s.withRdata v).diverged = s.diverged := rfl
@[simp] theorem withRdata_stageCycles (v : Word) : (s.withRdata v).stageCycles = s.stageCycles := rfl
@[simp] theorem withRdata_errCause (v : Word) : (s.withRdata v).errCause = s.errCause := rfl
@[simp] theorem withRdata_errState (v : Word) : (s.withRdata v).errState = s.errState := rfl
@[simp] theorem withRdata_mode (v : Word) : (s.withRdata v).mode = s.mode := rfl
@[simp] theorem withRdata_payloadLen (v : Word) : (s.withRdata v).payloadLen = s.payloadLen := rfl
@[simp] theorem withRdata_deadline (v : Word) : (s.withRdata v).deadline = s.deadline := rfl
@[simp] theorem withRdata_pmemAddr (v : Word) : (s.withRdata v).pmemAddr = s.pmemAddr := rfl
@[simp] theorem withRdata_events (v : Word) : (s.withRdata v).events = s.events := rfl
@[simp] theorem withRdata_irqEn (v : Word) : (s.withRdata v).irqEn = s.irqEn := rfl
@[simp] theorem withRdata_pmem (v : Word) : (s.withRdata v).pmem = s.pmem := rfl
@[simp] theorem withRdata_scanBuf (v : Word) : (s.withRdata v).scanBuf = s.scanBuf := rfl
@[simp] theorem withRdata_inputs (v : Word) : (s.withRdata v).inputs = s.inputs := rfl
@[simp] theorem withRdata_cycle (v : Word) : (s.withRdata v).cycle = s.cycle := rfl
@[simp] theorem withRdata_busRdata (v : Word) : (s.withRdata v).busRdata = v := rfl
@[simp] theorem withRdata_txTrace (v : Word) : (s.withRdata v).txTrace = s.txTrace := rfl
@[simp] theorem withRdata_sessTx (v : Word) : (s.withRdata v).sessTx = s.sessTx := rfl
@[simp] theorem withRdata_rxTaken (v : Word) : (s.withRdata v).rxTaken = s.rxTaken := rfl

@[simp] theorem setEvent_cfg (e : Event) : (s.setEvent e).cfg = s.cfg := rfl
@[simp] theorem setEvent_state (e : Event) : (s.setEvent e).state = s.state := rfl
@[simp] theorem setEvent_drain (e : Event) : (s.setEvent e).drain = s.drain := rfl
@[simp] theorem setEvent_lenIdx (e : Event) : (s.setEvent e).lenIdx = s.lenIdx := rfl
@[simp] theorem setEvent_txCount (e : Event) : (s.setEvent e).txCount = s.txCount := rfl
@[simp] theorem setEvent_scanCount (e : Event) : (s.setEvent e).scanCount = s.scanCount := rfl
@[simp] theorem setEvent_scanWin (e : Event) : (s.setEvent e).scanWin = s.scanWin := rfl
@[simp] theorem setEvent_diverged (e : Event) : (s.setEvent e).diverged = s.diverged := rfl
@[simp] theorem setEvent_stageCycles (e : Event) : (s.setEvent e).stageCycles = s.stageCycles := rfl
@[simp] theorem setEvent_errCause (e : Event) : (s.setEvent e).errCause = s.errCause := rfl
@[simp] theorem setEvent_errState (e : Event) : (s.setEvent e).errState = s.errState := rfl
@[simp] theorem setEvent_mode (e : Event) : (s.setEvent e).mode = s.mode := rfl
@[simp] theorem setEvent_payloadLen (e : Event) : (s.setEvent e).payloadLen = s.payloadLen := rfl
@[simp] theorem setEvent_deadline (e : Event) : (s.setEvent e).deadline = s.deadline := rfl
@[simp] theorem setEvent_pmemAddr (e : Event) : (s.setEvent e).pmemAddr = s.pmemAddr := rfl
@[simp] theorem setEvent_events (e : Event) : (s.setEvent e).events = s.events ||| e.mask := rfl
@[simp] theorem setEvent_irqEn (e : Event) : (s.setEvent e).irqEn = s.irqEn := rfl
@[simp] theorem setEvent_pmem (e : Event) : (s.setEvent e).pmem = s.pmem := rfl
@[simp] theorem setEvent_scanBuf (e : Event) : (s.setEvent e).scanBuf = s.scanBuf := rfl
@[simp] theorem setEvent_inputs (e : Event) : (s.setEvent e).inputs = s.inputs := rfl
@[simp] theorem setEvent_cycle (e : Event) : (s.setEvent e).cycle = s.cycle := rfl
@[simp] theorem setEvent_busRdata (e : Event) : (s.setEvent e).busRdata = s.busRdata := rfl
@[simp] theorem setEvent_txTrace (e : Event) : (s.setEvent e).txTrace = s.txTrace := rfl
@[simp] theorem setEvent_sessTx (e : Event) : (s.setEvent e).sessTx = s.sessTx := rfl
@[simp] theorem setEvent_rxTaken (e : Event) : (s.setEvent e).rxTaken = s.rxTaken := rfl

@[simp] theorem scanEnter_cfg : (s.scanEnter).cfg = s.cfg := rfl
@[simp] theorem scanEnter_state : (s.scanEnter).state = s.state := rfl
@[simp] theorem scanEnter_drain : (s.scanEnter).drain = s.drain := rfl
@[simp] theorem scanEnter_lenIdx : (s.scanEnter).lenIdx = s.lenIdx := rfl
@[simp] theorem scanEnter_txCount : (s.scanEnter).txCount = s.txCount := rfl
@[simp] theorem scanEnter_scanCount : (s.scanEnter).scanCount = 0 := rfl
@[simp] theorem scanEnter_scanWin : (s.scanEnter).scanWin = List.replicate s.cfg.maxMarkerLen 0 := rfl
@[simp] theorem scanEnter_diverged : (s.scanEnter).diverged = false := rfl
@[simp] theorem scanEnter_stageCycles : (s.scanEnter).stageCycles = 0 := rfl
@[simp] theorem scanEnter_errCause : (s.scanEnter).errCause = s.errCause := rfl
@[simp] theorem scanEnter_errState : (s.scanEnter).errState = s.errState := rfl
@[simp] theorem scanEnter_mode : (s.scanEnter).mode = s.mode := rfl
@[simp] theorem scanEnter_payloadLen : (s.scanEnter).payloadLen = s.payloadLen := rfl
@[simp] theorem scanEnter_deadline : (s.scanEnter).deadline = s.deadline := rfl
@[simp] theorem scanEnter_pmemAddr : (s.scanEnter).pmemAddr = s.pmemAddr := rfl
@[simp] theorem scanEnter_events : (s.scanEnter).events = s.events := rfl
@[simp] theorem scanEnter_irqEn : (s.scanEnter).irqEn = s.irqEn := rfl
@[simp] theorem scanEnter_pmem : (s.scanEnter).pmem = s.pmem := rfl
@[simp] theorem scanEnter_scanBuf : (s.scanEnter).scanBuf = [] := rfl
@[simp] theorem scanEnter_inputs : (s.scanEnter).inputs = s.inputs := rfl
@[simp] theorem scanEnter_cycle : (s.scanEnter).cycle = s.cycle := rfl
@[simp] theorem scanEnter_busRdata : (s.scanEnter).busRdata = s.busRdata := rfl
@[simp] theorem scanEnter_txTrace : (s.scanEnter).txTrace = s.txTrace := rfl
@[simp] theorem scanEnter_sessTx : (s.scanEnter).sessTx = s.sessTx := rfl
@[simp] theorem scanEnter_rxTaken : (s.scanEnter).rxTaken = s.rxTaken := rfl

@[simp] theorem scanAppend_cfg (g : Stage) (b : Byte) : (s.scanAppend g b).cfg = s.cfg := rfl
@[simp] theorem scanAppend_state (g : Stage) (b : Byte) : (s.scanAppend g b).state = s.state := rfl
@[simp] theorem scanAppend_drain (g : Stage) (b : Byte) : (s.scanAppend g b).drain = s.drain := rfl
@[simp] theorem scanAppend_lenIdx (g : Stage) (b : Byte) : (s.scanAppend g b).lenIdx = s.lenIdx := rfl
@[simp] theorem scanAppend_txCount (g : Stage) (b : Byte) : (s.scanAppend g b).txCount = s.txCount := rfl
@[simp] theorem scanAppend_scanCount (g : Stage) (b : Byte) : (s.scanAppend g b).scanCount = satInc s.scanCount := rfl
@[simp] theorem scanAppend_scanWin (g : Stage) (b : Byte) : (s.scanAppend g b).scanWin = s.scanWin.tail ++ [b] := rfl
@[simp] theorem scanAppend_diverged (g : Stage) (b : Byte) : (s.scanAppend g b).diverged = s.nextDiverged g b := rfl
@[simp] theorem scanAppend_stageCycles (g : Stage) (b : Byte) : (s.scanAppend g b).stageCycles = s.stageCycles := rfl
@[simp] theorem scanAppend_errCause (g : Stage) (b : Byte) : (s.scanAppend g b).errCause = s.errCause := rfl
@[simp] theorem scanAppend_errState (g : Stage) (b : Byte) : (s.scanAppend g b).errState = s.errState := rfl
@[simp] theorem scanAppend_mode (g : Stage) (b : Byte) : (s.scanAppend g b).mode = s.mode := rfl
@[simp] theorem scanAppend_payloadLen (g : Stage) (b : Byte) : (s.scanAppend g b).payloadLen = s.payloadLen := rfl
@[simp] theorem scanAppend_deadline (g : Stage) (b : Byte) : (s.scanAppend g b).deadline = s.deadline := rfl
@[simp] theorem scanAppend_pmemAddr (g : Stage) (b : Byte) : (s.scanAppend g b).pmemAddr = s.pmemAddr := rfl
@[simp] theorem scanAppend_events (g : Stage) (b : Byte) : (s.scanAppend g b).events = s.events := rfl
@[simp] theorem scanAppend_irqEn (g : Stage) (b : Byte) : (s.scanAppend g b).irqEn = s.irqEn := rfl
@[simp] theorem scanAppend_pmem (g : Stage) (b : Byte) : (s.scanAppend g b).pmem = s.pmem := rfl
@[simp] theorem scanAppend_scanBuf (g : Stage) (b : Byte) : (s.scanAppend g b).scanBuf = s.scanBuf ++ [b] := rfl
@[simp] theorem scanAppend_inputs (g : Stage) (b : Byte) : (s.scanAppend g b).inputs = s.inputs := rfl
@[simp] theorem scanAppend_cycle (g : Stage) (b : Byte) : (s.scanAppend g b).cycle = s.cycle := rfl
@[simp] theorem scanAppend_busRdata (g : Stage) (b : Byte) : (s.scanAppend g b).busRdata = s.busRdata := rfl
@[simp] theorem scanAppend_txTrace (g : Stage) (b : Byte) : (s.scanAppend g b).txTrace = s.txTrace := rfl
@[simp] theorem scanAppend_sessTx (g : Stage) (b : Byte) : (s.scanAppend g b).sessTx = s.sessTx := rfl
@[simp] theorem scanAppend_rxTaken (g : Stage) (b : Byte) : (s.scanAppend g b).rxTaken = s.rxTaken := rfl

@[simp] theorem raiseError_cfg (c : ErrCause) : (s.raiseError c).cfg = s.cfg := rfl
@[simp] theorem raiseError_state (c : ErrCause) : (s.raiseError c).state = .error := rfl
@[simp] theorem raiseError_drain (c : ErrCause) : (s.raiseError c).drain = false := rfl
@[simp] theorem raiseError_lenIdx (c : ErrCause) : (s.raiseError c).lenIdx = s.lenIdx := rfl
@[simp] theorem raiseError_txCount (c : ErrCause) : (s.raiseError c).txCount = s.txCount := rfl
@[simp] theorem raiseError_scanCount (c : ErrCause) : (s.raiseError c).scanCount = s.scanCount := rfl
@[simp] theorem raiseError_scanWin (c : ErrCause) : (s.raiseError c).scanWin = s.scanWin := rfl
@[simp] theorem raiseError_diverged (c : ErrCause) : (s.raiseError c).diverged = s.diverged := rfl
@[simp] theorem raiseError_stageCycles (c : ErrCause) : (s.raiseError c).stageCycles = s.stageCycles := rfl
@[simp] theorem raiseError_errCause (c : ErrCause) : (s.raiseError c).errCause = c.code := rfl
@[simp] theorem raiseError_errState (c : ErrCause) : (s.raiseError c).errState = s.state := rfl
@[simp] theorem raiseError_mode (c : ErrCause) : (s.raiseError c).mode = s.mode := rfl
@[simp] theorem raiseError_payloadLen (c : ErrCause) : (s.raiseError c).payloadLen = s.payloadLen := rfl
@[simp] theorem raiseError_deadline (c : ErrCause) : (s.raiseError c).deadline = s.deadline := rfl
@[simp] theorem raiseError_pmemAddr (c : ErrCause) : (s.raiseError c).pmemAddr = s.pmemAddr := rfl
@[simp] theorem raiseError_events (c : ErrCause) : (s.raiseError c).events = s.events ||| Event.error.mask := rfl
@[simp] theorem raiseError_irqEn (c : ErrCause) : (s.raiseError c).irqEn = s.irqEn := rfl
@[simp] theorem raiseError_pmem (c : ErrCause) : (s.raiseError c).pmem = s.pmem := rfl
@[simp] theorem raiseError_scanBuf (c : ErrCause) : (s.raiseError c).scanBuf = s.scanBuf := rfl
@[simp] theorem raiseError_inputs (c : ErrCause) : (s.raiseError c).inputs = s.inputs := rfl
@[simp] theorem raiseError_cycle (c : ErrCause) : (s.raiseError c).cycle = s.cycle := rfl
@[simp] theorem raiseError_busRdata (c : ErrCause) : (s.raiseError c).busRdata = s.busRdata := rfl
@[simp] theorem raiseError_txTrace (c : ErrCause) : (s.raiseError c).txTrace = s.txTrace := rfl
@[simp] theorem raiseError_sessTx (c : ErrCause) : (s.raiseError c).sessTx = s.sessTx := rfl
@[simp] theorem raiseError_rxTaken (c : ErrCause) : (s.raiseError c).rxTaken = s.rxTaken := rfl

@[simp] theorem cmdClear_cfg : (s.cmdClear).cfg = s.cfg := rfl
@[simp] theorem cmdClear_state : (s.cmdClear).state = .init := rfl
@[simp] theorem cmdClear_drain : (s.cmdClear).drain = false := rfl
@[simp] theorem cmdClear_lenIdx : (s.cmdClear).lenIdx = 0 := rfl
@[simp] theorem cmdClear_txCount : (s.cmdClear).txCount = 0 := rfl
@[simp] theorem cmdClear_scanCount : (s.cmdClear).scanCount = 0 := rfl
@[simp] theorem cmdClear_scanWin : (s.cmdClear).scanWin = List.replicate s.cfg.maxMarkerLen 0 := rfl
@[simp] theorem cmdClear_diverged : (s.cmdClear).diverged = false := rfl
@[simp] theorem cmdClear_stageCycles : (s.cmdClear).stageCycles = 0 := rfl
@[simp] theorem cmdClear_errCause : (s.cmdClear).errCause = 0 := rfl
@[simp] theorem cmdClear_errState : (s.cmdClear).errState = .init := rfl
@[simp] theorem cmdClear_mode : (s.cmdClear).mode = s.mode := rfl
@[simp] theorem cmdClear_payloadLen : (s.cmdClear).payloadLen = s.payloadLen := rfl
@[simp] theorem cmdClear_deadline : (s.cmdClear).deadline = s.deadline := rfl
@[simp] theorem cmdClear_pmemAddr : (s.cmdClear).pmemAddr = s.pmemAddr := rfl
@[simp] theorem cmdClear_events : (s.cmdClear).events = s.events := rfl
@[simp] theorem cmdClear_irqEn : (s.cmdClear).irqEn = s.irqEn := rfl
@[simp] theorem cmdClear_pmem : (s.cmdClear).pmem = s.pmem := rfl
@[simp] theorem cmdClear_scanBuf : (s.cmdClear).scanBuf = [] := rfl
@[simp] theorem cmdClear_inputs : (s.cmdClear).inputs = s.inputs := rfl
@[simp] theorem cmdClear_cycle : (s.cmdClear).cycle = s.cycle := rfl
@[simp] theorem cmdClear_busRdata : (s.cmdClear).busRdata = s.busRdata := rfl
@[simp] theorem cmdClear_txTrace : (s.cmdClear).txTrace = s.txTrace := rfl
@[simp] theorem cmdClear_sessTx : (s.cmdClear).sessTx = s.sessTx := rfl
@[simp] theorem cmdClear_rxTaken : (s.cmdClear).rxTaken = s.rxTaken := rfl

@[simp] theorem beginSession_cfg : (s.beginSession).cfg = s.cfg := rfl
@[simp] theorem beginSession_state : (s.beginSession).state = .awaitReady := rfl
@[simp] theorem beginSession_drain : (s.beginSession).drain = false := rfl
@[simp] theorem beginSession_lenIdx : (s.beginSession).lenIdx = 0 := rfl
@[simp] theorem beginSession_txCount : (s.beginSession).txCount = 0 := rfl
@[simp] theorem beginSession_scanCount : (s.beginSession).scanCount = 0 := rfl
@[simp] theorem beginSession_scanWin : (s.beginSession).scanWin = List.replicate s.cfg.maxMarkerLen 0 := rfl
@[simp] theorem beginSession_diverged : (s.beginSession).diverged = false := rfl
@[simp] theorem beginSession_stageCycles : (s.beginSession).stageCycles = 0 := rfl
@[simp] theorem beginSession_errCause : (s.beginSession).errCause = s.errCause := rfl
@[simp] theorem beginSession_errState : (s.beginSession).errState = s.errState := rfl
@[simp] theorem beginSession_mode : (s.beginSession).mode = s.mode := rfl
@[simp] theorem beginSession_payloadLen : (s.beginSession).payloadLen = s.payloadLen := rfl
@[simp] theorem beginSession_deadline : (s.beginSession).deadline = s.deadline := rfl
@[simp] theorem beginSession_pmemAddr : (s.beginSession).pmemAddr = s.pmemAddr := rfl
@[simp] theorem beginSession_events : (s.beginSession).events = s.events := rfl
@[simp] theorem beginSession_irqEn : (s.beginSession).irqEn = s.irqEn := rfl
@[simp] theorem beginSession_pmem : (s.beginSession).pmem = s.pmem := rfl
@[simp] theorem beginSession_scanBuf : (s.beginSession).scanBuf = [] := rfl
@[simp] theorem beginSession_inputs : (s.beginSession).inputs = s.inputs := rfl
@[simp] theorem beginSession_cycle : (s.beginSession).cycle = s.cycle := rfl
@[simp] theorem beginSession_busRdata : (s.beginSession).busRdata = s.busRdata := rfl
@[simp] theorem beginSession_txTrace : (s.beginSession).txTrace = s.txTrace := rfl
@[simp] theorem beginSession_sessTx : (s.beginSession).sessTx = [] := rfl
@[simp] theorem beginSession_rxTaken : (s.beginSession).rxTaken = s.rxTaken := rfl

@[simp] theorem sendBodyEnter_cfg : (s.sendBodyEnter).cfg = s.cfg := rfl
@[simp] theorem sendBodyEnter_state : (s.sendBodyEnter).state = .sendBody := rfl
@[simp] theorem sendBodyEnter_drain : (s.sendBodyEnter).drain = decide (s.payloadLen = 0) := rfl
@[simp] theorem sendBodyEnter_lenIdx : (s.sendBodyEnter).lenIdx = s.lenIdx := rfl
@[simp] theorem sendBodyEnter_txCount : (s.sendBodyEnter).txCount = 0 := rfl
@[simp] theorem sendBodyEnter_scanCount : (s.sendBodyEnter).scanCount = s.scanCount := rfl
@[simp] theorem sendBodyEnter_scanWin : (s.sendBodyEnter).scanWin = s.scanWin := rfl
@[simp] theorem sendBodyEnter_diverged : (s.sendBodyEnter).diverged = s.diverged := rfl
@[simp] theorem sendBodyEnter_stageCycles : (s.sendBodyEnter).stageCycles = s.stageCycles := rfl
@[simp] theorem sendBodyEnter_errCause : (s.sendBodyEnter).errCause = s.errCause := rfl
@[simp] theorem sendBodyEnter_errState : (s.sendBodyEnter).errState = s.errState := rfl
@[simp] theorem sendBodyEnter_mode : (s.sendBodyEnter).mode = s.mode := rfl
@[simp] theorem sendBodyEnter_payloadLen : (s.sendBodyEnter).payloadLen = s.payloadLen := rfl
@[simp] theorem sendBodyEnter_deadline : (s.sendBodyEnter).deadline = s.deadline := rfl
@[simp] theorem sendBodyEnter_pmemAddr : (s.sendBodyEnter).pmemAddr = s.pmemAddr := rfl
@[simp] theorem sendBodyEnter_events : (s.sendBodyEnter).events = s.events := rfl
@[simp] theorem sendBodyEnter_irqEn : (s.sendBodyEnter).irqEn = s.irqEn := rfl
@[simp] theorem sendBodyEnter_pmem : (s.sendBodyEnter).pmem = s.pmem := rfl
@[simp] theorem sendBodyEnter_scanBuf : (s.sendBodyEnter).scanBuf = s.scanBuf := rfl
@[simp] theorem sendBodyEnter_inputs : (s.sendBodyEnter).inputs = s.inputs := rfl
@[simp] theorem sendBodyEnter_cycle : (s.sendBodyEnter).cycle = s.cycle := rfl
@[simp] theorem sendBodyEnter_busRdata : (s.sendBodyEnter).busRdata = s.busRdata := rfl
@[simp] theorem sendBodyEnter_txTrace : (s.sendBodyEnter).txTrace = s.txTrace := rfl
@[simp] theorem sendBodyEnter_sessTx : (s.sendBodyEnter).sessTx = s.sessTx := rfl
@[simp] theorem sendBodyEnter_rxTaken : (s.sendBodyEnter).rxTaken = s.rxTaken := rfl

@[simp] theorem pmemStore_cfg (b : Byte) : (s.pmemStore b).cfg = s.cfg := rfl
@[simp] theorem pmemStore_state (b : Byte) : (s.pmemStore b).state = s.state := rfl
@[simp] theorem pmemStore_drain (b : Byte) : (s.pmemStore b).drain = s.drain := rfl
@[simp] theorem pmemStore_lenIdx (b : Byte) : (s.pmemStore b).lenIdx = s.lenIdx := rfl
@[simp] theorem pmemStore_txCount (b : Byte) : (s.pmemStore b).txCount = s.txCount := rfl
@[simp] theorem pmemStore_scanCount (b : Byte) : (s.pmemStore b).scanCount = s.scanCount := rfl
@[simp] theorem pmemStore_scanWin (b : Byte) : (s.pmemStore b).scanWin = s.scanWin := rfl
@[simp] theorem pmemStore_diverged (b : Byte) : (s.pmemStore b).diverged = s.diverged := rfl
@[simp] theorem pmemStore_stageCycles (b : Byte) : (s.pmemStore b).stageCycles = s.stageCycles := rfl
@[simp] theorem pmemStore_errCause (b : Byte) : (s.pmemStore b).errCause = s.errCause := rfl
@[simp] theorem pmemStore_errState (b : Byte) : (s.pmemStore b).errState = s.errState := rfl
@[simp] theorem pmemStore_mode (b : Byte) : (s.pmemStore b).mode = s.mode := rfl
@[simp] theorem pmemStore_payloadLen (b : Byte) : (s.pmemStore b).payloadLen = s.payloadLen := rfl
@[simp] theorem pmemStore_deadline (b : Byte) : (s.pmemStore b).deadline = s.deadline := rfl
@[simp] theorem pmemStore_pmemAddr (b : Byte) : (s.pmemStore b).pmemAddr = s.pmemAddr + 1 := rfl
@[simp] theorem pmemStore_events (b : Byte) : (s.pmemStore b).events = s.events := rfl
@[simp] theorem pmemStore_irqEn (b : Byte) : (s.pmemStore b).irqEn = s.irqEn := rfl
@[simp] theorem pmemStore_pmem (b : Byte) : (s.pmemStore b).pmem = if s.pmemAddr < s.cfg.payloadCap then s.pmem.write s.pmemAddr.toNat b else s.pmem := rfl
@[simp] theorem pmemStore_scanBuf (b : Byte) : (s.pmemStore b).scanBuf = s.scanBuf := rfl
@[simp] theorem pmemStore_inputs (b : Byte) : (s.pmemStore b).inputs = s.inputs := rfl
@[simp] theorem pmemStore_cycle (b : Byte) : (s.pmemStore b).cycle = s.cycle := rfl
@[simp] theorem pmemStore_busRdata (b : Byte) : (s.pmemStore b).busRdata = s.busRdata := rfl
@[simp] theorem pmemStore_txTrace (b : Byte) : (s.pmemStore b).txTrace = s.txTrace := rfl
@[simp] theorem pmemStore_sessTx (b : Byte) : (s.pmemStore b).sessTx = s.sessTx := rfl
@[simp] theorem pmemStore_rxTaken (b : Byte) : (s.pmemStore b).rxTaken = s.rxTaken := rfl

@[simp] theorem lengthByteTaken_cfg : (s.lengthByteTaken).cfg = s.cfg := rfl
@[simp] theorem lengthByteTaken_state : (s.lengthByteTaken).state = s.state := rfl
@[simp] theorem lengthByteTaken_drain : (s.lengthByteTaken).drain = if s.lenIdx = 3 then true else s.drain := rfl
@[simp] theorem lengthByteTaken_lenIdx : (s.lengthByteTaken).lenIdx = s.lenIdx + 1 := rfl
@[simp] theorem lengthByteTaken_txCount : (s.lengthByteTaken).txCount = s.txCount := rfl
@[simp] theorem lengthByteTaken_scanCount : (s.lengthByteTaken).scanCount = s.scanCount := rfl
@[simp] theorem lengthByteTaken_scanWin : (s.lengthByteTaken).scanWin = s.scanWin := rfl
@[simp] theorem lengthByteTaken_diverged : (s.lengthByteTaken).diverged = s.diverged := rfl
@[simp] theorem lengthByteTaken_stageCycles : (s.lengthByteTaken).stageCycles = s.stageCycles := rfl
@[simp] theorem lengthByteTaken_errCause : (s.lengthByteTaken).errCause = s.errCause := rfl
@[simp] theorem lengthByteTaken_errState : (s.lengthByteTaken).errState = s.errState := rfl
@[simp] theorem lengthByteTaken_mode : (s.lengthByteTaken).mode = s.mode := rfl
@[simp] theorem lengthByteTaken_payloadLen : (s.lengthByteTaken).payloadLen = s.payloadLen := rfl
@[simp] theorem lengthByteTaken_deadline : (s.lengthByteTaken).deadline = s.deadline := rfl
@[simp] theorem lengthByteTaken_pmemAddr : (s.lengthByteTaken).pmemAddr = s.pmemAddr := rfl
@[simp] theorem lengthByteTaken_events : (s.lengthByteTaken).events = s.events := rfl
@[simp] theorem lengthByteTaken_irqEn : (s.lengthByteTaken).irqEn = s.irqEn := rfl
@[simp] theorem lengthByteTaken_pmem : (s.lengthByteTaken).pmem = s.pmem := rfl
@[simp] theorem lengthByteTaken_scanBuf : (s.lengthByteTaken).scanBuf = s.scanBuf := rfl
@[simp] theorem lengthByteTaken_inputs : (s.lengthByteTaken).inputs = s.inputs := rfl
@[simp] theorem lengthByteTaken_cycle : (s.lengthByteTaken).cycle = s.cycle := rfl
@[simp] theorem lengthByteTaken_busRdata : (s.lengthByteTaken).busRdata = s.busRdata := rfl
@[simp] theorem lengthByteTaken_txTrace : (s.lengthByteTaken).txTrace = s.txTrace := rfl
@[simp] theorem lengthByteTaken_sessTx : (s.lengthByteTaken).sessTx = s.sessTx := rfl
@[simp] theorem lengthByteTaken_rxTaken : (s.lengthByteTaken).rxTaken = s.rxTaken := rfl

@[simp] theorem bodyByteTaken_cfg : (s.bodyByteTaken).cfg = s.cfg := rfl
@[simp] theorem bodyByteTaken_state : (s.bodyByteTaken).state = s.state := rfl
@[simp] theorem bodyByteTaken_drain : (s.bodyByteTaken).drain = if s.txCount + 1 = s.payloadLen then true else s.drain := rfl
@[simp] theorem bodyByteTaken_lenIdx : (s.bodyByteTaken).lenIdx = s.lenIdx := rfl
@[simp] theorem bodyByteTaken_txCount : (s.bodyByteTaken).txCount = s.txCount + 1 := rfl
@[simp] theorem bodyByteTaken_scanCount : (s.bodyByteTaken).scanCount = s.scanCount := rfl
@[simp] theorem bodyByteTaken_scanWin : (s.bodyByteTaken).scanWin = s.scanWin := rfl
@[simp] theorem bodyByteTaken_diverged : (s.bodyByteTaken).diverged = s.diverged := rfl
@[simp] theorem bodyByteTaken_stageCycles : (s.bodyByteTaken).stageCycles = s.stageCycles := rfl
@[simp] theorem bodyByteTaken_errCause : (s.bodyByteTaken).errCause = s.errCause := rfl
@[simp] theorem bodyByteTaken_errState : (s.bodyByteTaken).errState = s.errState := rfl
@[simp] theorem bodyByteTaken_mode : (s.bodyByteTaken).mode = s.mode := rfl
@[simp] theorem bodyByteTaken_payloadLen : (s.bodyByteTaken).payloadLen = s.payloadLen := rfl
@[simp] theorem bodyByteTaken_deadline : (s.bodyByteTaken).deadline = s.deadline := rfl
@[simp] theorem bodyByteTaken_pmemAddr : (s.bodyByteTaken).pmemAddr = s.pmemAddr := rfl
@[simp] theorem bodyByteTaken_events : (s.bodyByteTaken).events = s.events := rfl
@[simp] theorem bodyByteTaken_irqEn : (s.bodyByteTaken).irqEn = s.irqEn := rfl
@[simp] theorem bodyByteTaken_pmem : (s.bodyByteTaken).pmem = s.pmem := rfl
@[simp] theorem bodyByteTaken_scanBuf : (s.bodyByteTaken).scanBuf = s.scanBuf := rfl
@[simp] theorem bodyByteTaken_inputs : (s.bodyByteTaken).inputs = s.inputs := rfl
@[simp] theorem bodyByteTaken_cycle : (s.bodyByteTaken).cycle = s.cycle := rfl
@[simp] theorem bodyByteTaken_busRdata : (s.bodyByteTaken).busRdata = s.busRdata := rfl
@[simp] theorem bodyByteTaken_txTrace : (s.bodyByteTaken).txTrace = s.txTrace := rfl
@[simp] theorem bodyByteTaken_sessTx : (s.bodyByteTaken).sessTx = s.sessTx := rfl
@[simp] theorem bodyByteTaken_rxTaken : (s.bodyByteTaken).rxTaken = s.rxTaken := rfl

@[simp] theorem lengthDrained_cfg : (s.lengthDrained).cfg = s.cfg := rfl
@[simp] theorem lengthDrained_state : (s.lengthDrained).state = .awaitAck := rfl
@[simp] theorem lengthDrained_drain : (s.lengthDrained).drain = false := rfl
@[simp] theorem lengthDrained_lenIdx : (s.lengthDrained).lenIdx = s.lenIdx := rfl
@[simp] theorem lengthDrained_txCount : (s.lengthDrained).txCount = s.txCount := rfl
@[simp] theorem lengthDrained_scanCount : (s.lengthDrained).scanCount = 0 := rfl
@[simp] theorem lengthDrained_scanWin : (s.lengthDrained).scanWin = List.replicate s.cfg.maxMarkerLen 0 := rfl
@[simp] theorem lengthDrained_diverged : (s.lengthDrained).diverged = false := rfl
@[simp] theorem lengthDrained_stageCycles : (s.lengthDrained).stageCycles = 0 := rfl
@[simp] theorem lengthDrained_errCause : (s.lengthDrained).errCause = s.errCause := rfl
@[simp] theorem lengthDrained_errState : (s.lengthDrained).errState = s.errState := rfl
@[simp] theorem lengthDrained_mode : (s.lengthDrained).mode = s.mode := rfl
@[simp] theorem lengthDrained_payloadLen : (s.lengthDrained).payloadLen = s.payloadLen := rfl
@[simp] theorem lengthDrained_deadline : (s.lengthDrained).deadline = s.deadline := rfl
@[simp] theorem lengthDrained_pmemAddr : (s.lengthDrained).pmemAddr = s.pmemAddr := rfl
@[simp] theorem lengthDrained_events : (s.lengthDrained).events = s.events ||| Event.lenSent.mask := rfl
@[simp] theorem lengthDrained_irqEn : (s.lengthDrained).irqEn = s.irqEn := rfl
@[simp] theorem lengthDrained_pmem : (s.lengthDrained).pmem = s.pmem := rfl
@[simp] theorem lengthDrained_scanBuf : (s.lengthDrained).scanBuf = [] := rfl
@[simp] theorem lengthDrained_inputs : (s.lengthDrained).inputs = s.inputs := rfl
@[simp] theorem lengthDrained_cycle : (s.lengthDrained).cycle = s.cycle := rfl
@[simp] theorem lengthDrained_busRdata : (s.lengthDrained).busRdata = s.busRdata := rfl
@[simp] theorem lengthDrained_txTrace : (s.lengthDrained).txTrace = s.txTrace := rfl
@[simp] theorem lengthDrained_sessTx : (s.lengthDrained).sessTx = s.sessTx := rfl
@[simp] theorem lengthDrained_rxTaken : (s.lengthDrained).rxTaken = s.rxTaken := rfl

@[simp] theorem bodyDrained_cfg : (s.bodyDrained).cfg = s.cfg := rfl
@[simp] theorem bodyDrained_state : (s.bodyDrained).state = .done := rfl
@[simp] theorem bodyDrained_drain : (s.bodyDrained).drain = false := rfl
@[simp] theorem bodyDrained_lenIdx : (s.bodyDrained).lenIdx = s.lenIdx := rfl
@[simp] theorem bodyDrained_txCount : (s.bodyDrained).txCount = s.txCount := rfl
@[simp] theorem bodyDrained_scanCount : (s.bodyDrained).scanCount = s.scanCount := rfl
@[simp] theorem bodyDrained_scanWin : (s.bodyDrained).scanWin = s.scanWin := rfl
@[simp] theorem bodyDrained_diverged : (s.bodyDrained).diverged = s.diverged := rfl
@[simp] theorem bodyDrained_stageCycles : (s.bodyDrained).stageCycles = s.stageCycles := rfl
@[simp] theorem bodyDrained_errCause : (s.bodyDrained).errCause = s.errCause := rfl
@[simp] theorem bodyDrained_errState : (s.bodyDrained).errState = s.errState := rfl
@[simp] theorem bodyDrained_mode : (s.bodyDrained).mode = s.mode := rfl
@[simp] theorem bodyDrained_payloadLen : (s.bodyDrained).payloadLen = s.payloadLen := rfl
@[simp] theorem bodyDrained_deadline : (s.bodyDrained).deadline = s.deadline := rfl
@[simp] theorem bodyDrained_pmemAddr : (s.bodyDrained).pmemAddr = s.pmemAddr := rfl
@[simp] theorem bodyDrained_events : (s.bodyDrained).events = s.events ||| Event.done.mask := rfl
@[simp] theorem bodyDrained_irqEn : (s.bodyDrained).irqEn = s.irqEn := rfl
@[simp] theorem bodyDrained_pmem : (s.bodyDrained).pmem = s.pmem := rfl
@[simp] theorem bodyDrained_scanBuf : (s.bodyDrained).scanBuf = s.scanBuf := rfl
@[simp] theorem bodyDrained_inputs : (s.bodyDrained).inputs = s.inputs := rfl
@[simp] theorem bodyDrained_cycle : (s.bodyDrained).cycle = s.cycle := rfl
@[simp] theorem bodyDrained_busRdata : (s.bodyDrained).busRdata = s.busRdata := rfl
@[simp] theorem bodyDrained_txTrace : (s.bodyDrained).txTrace = s.txTrace := rfl
@[simp] theorem bodyDrained_sessTx : (s.bodyDrained).sessTx = s.sessTx := rfl
@[simp] theorem bodyDrained_rxTaken : (s.bodyDrained).rxTaken = s.rxTaken := rfl

@[simp] theorem resetRegs_cfg : (s.resetRegs).cfg = s.cfg := rfl
@[simp] theorem resetRegs_state : (s.resetRegs).state = .init := rfl
@[simp] theorem resetRegs_drain : (s.resetRegs).drain = false := rfl
@[simp] theorem resetRegs_lenIdx : (s.resetRegs).lenIdx = 0 := rfl
@[simp] theorem resetRegs_txCount : (s.resetRegs).txCount = 0 := rfl
@[simp] theorem resetRegs_scanCount : (s.resetRegs).scanCount = 0 := rfl
@[simp] theorem resetRegs_scanWin : (s.resetRegs).scanWin = List.replicate s.cfg.maxMarkerLen 0 := rfl
@[simp] theorem resetRegs_diverged : (s.resetRegs).diverged = false := rfl
@[simp] theorem resetRegs_stageCycles : (s.resetRegs).stageCycles = 0 := rfl
@[simp] theorem resetRegs_errCause : (s.resetRegs).errCause = 0 := rfl
@[simp] theorem resetRegs_errState : (s.resetRegs).errState = .init := rfl
@[simp] theorem resetRegs_mode : (s.resetRegs).mode = 0 := rfl
@[simp] theorem resetRegs_payloadLen : (s.resetRegs).payloadLen = 0 := rfl
@[simp] theorem resetRegs_deadline : (s.resetRegs).deadline = 0 := rfl
@[simp] theorem resetRegs_pmemAddr : (s.resetRegs).pmemAddr = 0 := rfl
@[simp] theorem resetRegs_events : (s.resetRegs).events = 0 := rfl
@[simp] theorem resetRegs_irqEn : (s.resetRegs).irqEn = 0 := rfl
@[simp] theorem resetRegs_pmem : (s.resetRegs).pmem = s.pmem := rfl
@[simp] theorem resetRegs_scanBuf : (s.resetRegs).scanBuf = [] := rfl
@[simp] theorem resetRegs_inputs : (s.resetRegs).inputs = s.inputs := rfl
@[simp] theorem resetRegs_cycle : (s.resetRegs).cycle = s.cycle := rfl
@[simp] theorem resetRegs_busRdata : (s.resetRegs).busRdata = s.busRdata := rfl
@[simp] theorem resetRegs_txTrace : (s.resetRegs).txTrace = s.txTrace := rfl
@[simp] theorem resetRegs_sessTx : (s.resetRegs).sessTx = s.sessTx := rfl
@[simp] theorem resetRegs_rxTaken : (s.resetRegs).rxTaken = s.rxTaken := rfl

@[simp] theorem endCycle_cfg (t : State) : (s.endCycle t).cfg = t.cfg := rfl
@[simp] theorem endCycle_state (t : State) : (s.endCycle t).state = t.state := rfl
@[simp] theorem endCycle_drain (t : State) : (s.endCycle t).drain = t.drain := rfl
@[simp] theorem endCycle_lenIdx (t : State) : (s.endCycle t).lenIdx = t.lenIdx := rfl
@[simp] theorem endCycle_txCount (t : State) : (s.endCycle t).txCount = t.txCount := rfl
@[simp] theorem endCycle_scanCount (t : State) : (s.endCycle t).scanCount = t.scanCount := rfl
@[simp] theorem endCycle_scanWin (t : State) : (s.endCycle t).scanWin = t.scanWin := rfl
@[simp] theorem endCycle_diverged (t : State) : (s.endCycle t).diverged = t.diverged := rfl
@[simp] theorem endCycle_stageCycles (t : State) : (s.endCycle t).stageCycles = t.stageCycles := rfl
@[simp] theorem endCycle_errCause (t : State) : (s.endCycle t).errCause = t.errCause := rfl
@[simp] theorem endCycle_errState (t : State) : (s.endCycle t).errState = t.errState := rfl
@[simp] theorem endCycle_mode (t : State) : (s.endCycle t).mode = t.mode := rfl
@[simp] theorem endCycle_payloadLen (t : State) : (s.endCycle t).payloadLen = t.payloadLen := rfl
@[simp] theorem endCycle_deadline (t : State) : (s.endCycle t).deadline = t.deadline := rfl
@[simp] theorem endCycle_pmemAddr (t : State) : (s.endCycle t).pmemAddr = t.pmemAddr := rfl
@[simp] theorem endCycle_events (t : State) : (s.endCycle t).events = t.events := rfl
@[simp] theorem endCycle_irqEn (t : State) : (s.endCycle t).irqEn = t.irqEn := rfl
@[simp] theorem endCycle_pmem (t : State) : (s.endCycle t).pmem = t.pmem := rfl
@[simp] theorem endCycle_scanBuf (t : State) : (s.endCycle t).scanBuf = t.scanBuf := rfl
@[simp] theorem endCycle_inputs (t : State) : (s.endCycle t).inputs = s.inputs.tail := rfl
@[simp] theorem endCycle_cycle (t : State) : (s.endCycle t).cycle = s.cycle + 1 := rfl
@[simp] theorem endCycle_busRdata (t : State) : (s.endCycle t).busRdata = t.busRdata := rfl
@[simp] theorem endCycle_txTrace (t : State) : (s.endCycle t).txTrace = t.txTrace ++ s.txEvent?.toList := rfl
@[simp] theorem endCycle_sessTx (t : State) : (s.endCycle t).sessTx = t.sessTx ++ s.txEvent?.toList := rfl
@[simp] theorem endCycle_rxTaken (t : State) : (s.endCycle t).rxTaken = t.rxTaken ++ s.rxByte?.toList := rfl

end Sys2Proof.Machine
end

