-- ==== Sys2Proof/Laws/Step.lean ====
section
/-! SUPPORT. Once for all, what a step can do: what a BUS row leaves (`BusMove`), what the STEP row of the cycle makes
of that (`EngineMove`), and the two together (`step_cases`, `step_next`). Invariants are read off these cases. -/

namespace Sys2Proof.Machine

theorem r50_iff (s : State) : s.r50 = true ↔ s.R50 := by
  simp only [State.r50, State.r50Core, State.R50, State.R50Core, Bool.and_eq_true, decide_eq_true_eq, and_assoc]

theorem r50Core_iff (s : State) : s.r50Core = true ↔ s.R50Core := by
  simp only [State.r50Core, State.R50Core, Bool.and_eq_true, decide_eq_true_eq, and_assoc]

/-- Outside DONE, R50 is its core. -/
theorem R50_of_not_done {s : State} (h : s.R50Core) (hs : s.state ≠ .done) : s.R50 :=
  ⟨h, fun hd => absurd hd hs⟩

/-- The legal states, taken apart. -/
theorem legal_iff (s : State) :
    s.legal = true ↔ s.cfg.wf = true ∧ s.R50Core ∧
      ((s.state ≠ .awaitReady ∧ s.state ≠ .awaitTrigger) ∨ s.lenIdx = 0) ∧
      s.scanWin.length = s.cfg.maxMarkerLen ∧ s.errCause.toNat ≤ 5 ∧ s.pmem.wf = true ∧
      s.pmem.inRange s.cfg.payloadCap.toNat = true := by
  simp only [State.legal, Bool.and_eq_true, Bool.or_eq_true, decide_eq_true_eq, r50Core_iff, and_assoc]

/-- What a BUS row other than an acting ABORT can leave of the state it starts from. -/
inductive BusMove (s : State) : State → Prop
  | nothing : BusMove s s
  | rdata (v : Word) : BusMove s (s.withRdata v)
  | start (hs : s.state = .init) (hfit : ¬ s.cfg.payloadCap < s.payloadLen) : BusMove s s.beginSession
  | tooLarge (hs : s.state = .init) (hfit : s.cfg.payloadCap < s.payloadLen) :
      BusMove s (s.raiseError .payloadTooLarge)
  | clear (hs : s.state = .done ∨ s.state = .error) : BusMove s s.cmdClear
  | mode (hi : s.active = false) (v : BitVec 3) : BusMove s { s with mode := v }
  | payloadLen (hi : s.active = false) (v : Word) : BusMove s { s with payloadLen := v }
  | deadline (hi : s.active = false) (v : Word) : BusMove s { s with deadline := v }
  | pmemAddr (hi : s.active = false) (v : Word) : BusMove s { s with pmemAddr := v }
  | pmemData (hi : s.active = false) (b : Byte) : BusMove s (s.pmemStore b)
  | events (v : BitVec 6) : BusMove s { s with events := clearEvents s.events v }
  | irqEn (v : BitVec 6) : BusMove s { s with irqEn := v }

theorem startActs_iff (s : State) (d : Word) : s.startActs d = true ↔ ctrlStart d = true ∧ s.state = .init := by
  simp [State.startActs]

theorem abortActs_iff (s : State) (d : Word) : s.abortActs d = true ↔ ctrlAbort d = true ∧ s.active = true := by
  simp [State.abortActs]

theorem clearActs_iff (s : State) (d : Word) :
    s.clearActs d = true ↔ ctrlClear d = true ∧ (s.state = .done ∨ s.state = .error) := by
  simp [State.clearActs]

/-- R180, R212: what WR_CTRL can do when ABORT does not act. -/
theorem command_move (s : State) (d : Word) (h : s.abortActs d = false) : BusMove s (s.command d) := by
  unfold State.command
  split
  · rename_i hs
    obtain ⟨-, hs⟩ := (startActs_iff s d).1 hs
    unfold State.cmdStart
    split
    · exact .tooLarge hs ‹_›
    · exact .start hs ‹_›
  · rw [if_neg (by simp [h])]
    split
    · rename_i hc; exact .clear ((clearActs_iff s d).1 hc).2
    · exact .nothing

/-- R183: what WR_CTRL does when ABORT acts. -/
theorem command_abort (s : State) (d : Word) (h : s.abortActs d = true) :
    s.active = true ∧ s.command d = s.raiseError .cancelled := by
  obtain ⟨-, ha⟩ := (abortActs_iff s d).1 h
  refine ⟨ha, ?_⟩
  have hns : s.startActs d = false := by
    cases hs : s.startActs d
    · rfl
    · have := ((startActs_iff s d).1 hs).2
      simp [State.active, SessionState.active, this] at ha
  simp [State.command, hns, h, State.cmdAbort]

theorem whileIdle_move (s : State) (f : State → State) (h : s.active = false → BusMove s (f s)) :
    BusMove s (s.whileIdle f) := by
  unfold State.whileIdle
  split
  · exact .nothing
  · exact h (by simpa using ‹¬ s.active = true›)

/-- Every BUS row completes, in every state, by a `BusMove` unless its ABORT acts. -/
theorem exec_bus (w : BitVec 41) (s : State)
    (h : ∀ d, decodeBus w = .wrCtrl d → s.abortActs d = false) :
    ∃ t, exec (decodeBus w) s = .next t ∧ BusMove s t := by
  generalize hi : decodeBus w = i at h ⊢
  cases i
  case wrCtrl d => exact ⟨_, rfl, command_move s d (h d rfl)⟩
  case wrMode d => exact ⟨_, rfl, whileIdle_move _ _ fun hi => .mode hi _⟩
  case wrPayloadLen d => exact ⟨_, rfl, whileIdle_move _ _ fun hi => .payloadLen hi _⟩
  case wrDeadline d => exact ⟨_, rfl, whileIdle_move _ _ fun hi => .deadline hi _⟩
  case wrPmemAddr d => exact ⟨_, rfl, whileIdle_move _ _ fun hi => .pmemAddr hi _⟩
  case wrPmemData d => exact ⟨_, rfl, whileIdle_move _ _ fun hi => .pmemData hi _⟩
  case wrEvents d => exact ⟨_, rfl, .events _⟩
  case wrIrqEn d => exact ⟨_, rfl, .irqEn _⟩
  all_goals
    first
    | exact ⟨_, rfl, .nothing⟩
    | exact ⟨_, rfl, .rdata _⟩
    | (exfalso; revert hi; unfold decodeBus writeRow readRow; repeat' split
       all_goals simp)

/-- R180 (1): the BUS phase of a cycle always completes: by ABORT's error entry, or by a `BusMove`. -/
theorem busPhase_cases (s : State) :
    ∃ t, (s.withRdata 0).busPhase s.busRow? = .next t ∧
      ((s.abortsNow = true ∧ s.active = true ∧ t = (s.withRdata 0).raiseError .cancelled) ∨
       (s.abortsNow = false ∧ BusMove (s.withRdata 0) t)) := by
  unfold State.busPhase State.abortsNow State.busRow?
  by_cases hen : s.input.busEn = true
  · simp only [hen, if_true]
    by_cases hab : ∃ d, decodeBus (portWord s.input) = .wrCtrl d ∧ s.abortActs d = true
    · obtain ⟨d, hd, ha⟩ := hab
      have := command_abort (s.withRdata 0) d ha
      refine ⟨(s.withRdata 0).command d, by rw [hd]; rfl, Or.inl ⟨by rw [hd]; exact ha, this.1, this.2⟩⟩
    · have hno : ∀ d, decodeBus (portWord s.input) = .wrCtrl d → s.abortActs d = false := by
        intro d hd
        cases hx : s.abortActs d
        · rfl
        · exact absurd ⟨d, hd, hx⟩ hab
      obtain ⟨t, ht, hm⟩ := exec_bus (portWord s.input) (s.withRdata 0) hno
      refine ⟨t, ht, Or.inr ⟨?_, hm⟩⟩
      split
      · rename_i d hd; exact hno d (by simpa using hd)
      · rfl
  · simp only [hen, Bool.false_eq_true, if_false]
    exact ⟨_, rfl, Or.inr ⟨by simp, .nothing⟩⟩

/-- R180: in DONE, WR_CTRL leaves the state alone or clears the session. -/
theorem command_done (s : State) (d : Word) (hs : s.state = .done) :
    s.command d = s ∨ s.command d = s.cmdClear := by
  have h1 : s.startActs d = false := by simp [State.startActs, hs]
  have h2 : s.abortActs d = false := by simp [State.abortActs, State.active, SessionState.active, hs]
  cases h3 : s.clearActs d <;> simp [State.command, h1, h2, h3]

/-- R219, R40: what a BUS row can leave of PAYLOAD_LEN, where it stays in DONE: the value it was, or the DATA of a
WR_PAYLOAD_LEN; TX_COUNT and the build stay (log entry 6). -/
theorem busPhase_done {s t : State} (h : (s.withRdata 0).busPhase s.busRow? = .next t) (hs : s.state = .done)
    (ht : t.state = .done) :
    t.cfg = s.cfg ∧ t.txCount = s.txCount ∧
      (t.payloadLen = s.payloadLen ∨ ∃ d, s.busRow? = some (.wrPayloadLen d) ∧ t.payloadLen = d) := by
  have ha : (s.withRdata 0).active = false := by simp [State.active, SessionState.active, hs]
  unfold State.busPhase at h
  split at h
  · cases h; exact ⟨rfl, rfl, .inl rfl⟩
  rename_i i hi
  have hdec : ∃ w, decodeBus w = i := by
    unfold State.busRow? at hi
    split at hi
    · exact ⟨_, Option.some.inj hi⟩
    · cases hi
  obtain ⟨w, hw⟩ := hdec
  cases i
  case wrCtrl d =>
    rcases command_done (s.withRdata 0) d hs with hc | hc <;> simp only [exec, execWrCtrl, hc] at h <;> cases h
    · exact ⟨rfl, rfl, .inl rfl⟩
    · cases ht
  case wrPayloadLen d =>
    simp only [exec, execWrPayloadLen, State.whileIdle, ha, Bool.false_eq_true, if_false] at h
    cases h
    exact ⟨rfl, rfl, .inr ⟨d, hi, rfl⟩⟩
  all_goals
    first
    | (cases h; exact ⟨rfl, rfl, .inl rfl⟩)
    | (simp only [exec, execWrMode, execWrDeadline, execWrPmemAddr, execWrPmemData, State.whileIdle, ha,
        Bool.false_eq_true, if_false] at h
       cases h; exact ⟨rfl, rfl, .inl rfl⟩)
    | (exfalso; revert hw; unfold decodeBus writeRow readRow; repeat' split
       all_goals simp)

/-- A `BusMove` in an ACTIVE state changes only EVENTS, IRQ_EN and `bus_rdata`. -/
theorem BusMove.active {s t : State} (h : BusMove s t) (ha : s.active = true) :
    t = { s with events := t.events, irqEn := t.irqEn, busRdata := t.busRdata } := by
  cases h with
  | start hs => simp [State.active, SessionState.active, hs] at ha
  | tooLarge hs => simp [State.active, SessionState.active, hs] at ha
  | clear hs => rcases hs with hs | hs <;> simp [State.active, SessionState.active, hs] at ha
  | mode hi => simp [hi] at ha
  | payloadLen hi => simp [hi] at ha
  | deadline hi => simp [hi] at ha
  | pmemAddr hi => simp [hi] at ha
  | pmemData hi => simp [hi] at ha
  | _ => rfl

/-- No BUS row touches the build, the inputs, the cycle number or what the ports have done. -/
theorem BusMove.keeps {s t : State} (h : BusMove s t) :
    t.cfg = s.cfg ∧ t.inputs = s.inputs ∧ t.cycle = s.cycle ∧ t.txTrace = s.txTrace ∧ t.rxTaken = s.rxTaken := by
  cases h <;> exact ⟨rfl, rfl, rfl, rfl, rfl⟩

theorem BusMove.input {s t : State} (h : BusMove s t) : t.input = s.input := by
  obtain ⟨-, hi, hc, -⟩ := h.keeps
  simp only [State.input, hi, hc]

/-- What the STEP row selected by `s` makes of the state `t` the BUS row left. -/
inductive EngineMove (s t : State) : State → Prop
  | idle (hs : s.active = false) : EngineMove s t t
  | rxError (g : Stage) (hs : s.state = g.state) (he : t.input.rxErr = true) :
      EngineMove s t (t.raiseError .rxError)
  | deadline (g : Stage) (hs : s.state = g.state) (he : t.input.rxErr = false) (hd : t.deadlinePassed = true) :
      EngineMove s t (t.raiseError .deadlineExceeded)
  | quiet (g : Stage) (hs : s.state = g.state) (he : t.input.rxErr = false) (hd : t.deadlinePassed = false)
      (hv : t.input.rxValid = false) : EngineMove s t { t with stageCycles := satInc t.stageCycles }
  | scan (g : Stage) (hs : s.state = g.state) (he : t.input.rxErr = false) (hd : t.deadlinePassed = false)
      (hv : t.input.rxValid = true)
      (hm : (State.scanAppend { t with stageCycles := satInc t.stageCycles } g t.input.rxData).scanMatched g = false) :
      EngineMove s t (State.scanAppend { t with stageCycles := satInc t.stageCycles } g t.input.rxData)
  | found (g : Stage) (hs : s.state = g.state) (he : t.input.rxErr = false) (hd : t.deadlinePassed = false)
      (hv : t.input.rxValid = true)
      (hm : (State.scanAppend { t with stageCycles := satInc t.stageCycles } g t.input.rxData).scanMatched g = true) :
      EngineMove s t
        (((State.scanAppend { t with stageCycles := satInc t.stageCycles } g t.input.rxData).setEvent
          g.event).stageExit g)
  | txError (hs : s.sending = true) (he : t.input.txErr = true) : EngineMove s t (t.raiseError .txError)
  | txWait (hs : s.sending = true) (he : t.input.txErr = false)
      (hw : (s.drain = false ∧ t.input.txReady = false) ∨ (s.drain = true ∧ t.input.txDrained = false)) :
      EngineMove s t t
  | lengthByte (hs : s.state = .sendLength) (hd : s.drain = false) (he : t.input.txErr = false)
      (hr : t.input.txReady = true) : EngineMove s t t.lengthByteTaken
  | lengthDrained (hs : s.state = .sendLength) (hd : s.drain = true) (he : t.input.txErr = false)
      (hr : t.input.txDrained = true) : EngineMove s t t.lengthDrained
  | bodyByte (hs : s.state = .sendBody) (hd : s.drain = false) (he : t.input.txErr = false)
      (hr : t.input.txReady = true) : EngineMove s t t.bodyByteTaken
  | bodyDrained (hs : s.state = .sendBody) (hd : s.drain = true) (he : t.input.txErr = false)
      (hr : t.input.txDrained = true) : EngineMove s t t.bodyDrained

/-- A stage runs in an ACTIVE state. -/
theorem stage_active {s : State} {g : Stage} (h : s.state = g.state) : s.active = true := by
  cases g <;> simp [State.active, SessionState.active, h, Stage.state]

/-- A SEND state is ACTIVE. -/
theorem sending_active {s : State} (h : s.sending = true) : s.active = true := by
  revert h
  simp only [State.sending, State.active]
  cases s.state <;> simp [SessionState.active]

/-- R181, R185, R186: in an idle state the STEP row does nothing. -/
theorem EngineMove.eq_of_idle {s t u : State} (h : EngineMove s t u) (hi : s.active = false) : u = t := by
  have na : ¬ s.active = true := by simp [hi]
  cases h with
  | idle => rfl
  | rxError g hs => exact absurd (stage_active hs) na
  | deadline g hs => exact absurd (stage_active hs) na
  | quiet g hs => exact absurd (stage_active hs) na
  | scan g hs => exact absurd (stage_active hs) na
  | found g hs => exact absurd (stage_active hs) na
  | txError hs => exact absurd (sending_active hs) na
  | txWait => rfl
  | lengthByte hs => exact absurd (sending_active (by simp [State.sending, hs])) na
  | lengthDrained hs => exact absurd (sending_active (by simp [State.sending, hs])) na
  | bodyByte hs => exact absurd (sending_active (by simp [State.sending, hs])) na
  | bodyDrained hs => exact absurd (sending_active (by simp [State.sending, hs])) na

/-- No STEP row touches the build, the host's configuration, PMEM, the inputs or what the ports have done. -/
theorem EngineMove.keeps {s t u : State} (h : EngineMove s t u) :
    u.cfg = t.cfg ∧ u.mode = t.mode ∧ u.payloadLen = t.payloadLen ∧ u.deadline = t.deadline ∧
    u.pmemAddr = t.pmemAddr ∧ u.pmem = t.pmem ∧ u.irqEn = t.irqEn ∧ u.inputs = t.inputs ∧ u.busRdata = t.busRdata ∧
    u.txTrace = t.txTrace ∧ u.sessTx = t.sessTx ∧ u.rxTaken = t.rxTaken := by
  cases h with
  | found g => cases g <;> exact ⟨rfl, rfl, rfl, rfl, rfl, rfl, rfl, rfl, rfl, rfl, rfl, rfl⟩
  | _ => exact ⟨rfl, rfl, rfl, rfl, rfl, rfl, rfl, rfl, rfl, rfl, rfl, rfl⟩

theorem awaitStep_move (s t : State) (g : Stage) (hs : s.state = g.state) : EngineMove s t (t.awaitStep g) := by
  unfold State.awaitStep
  split
  · exact .rxError g hs ‹_›
  · rename_i he; simp only [Bool.not_eq_true] at he
    split
    · exact .deadline g hs he ‹_›
    · rename_i hd; simp only [Bool.not_eq_true] at hd
      simp only
      split
      · rename_i hv
        unfold State.scanByte
        simp only
        split
        · exact .found g hs he hd hv ‹_›
        · exact .scan g hs he hd hv (Bool.eq_false_of_not_eq_true ‹_›)
      · exact .quiet g hs he hd (Bool.eq_false_of_not_eq_true ‹_›)

/-- R84, R188: in a state whose DRAIN is legal, the selected STEP row completes, by an `EngineMove`. -/
theorem exec_stepRow (s t : State) (hd : s.DrainOk) : ∃ u, exec s.stepRow t = .next u ∧ EngineMove s t u := by
  have tx : ∀ f : State → State, s.sending = true → (t.input.txErr = false → EngineMove s t (f t)) →
      EngineMove s t (t.unlessTxErr f) := by
    intro f hs hf
    unfold State.unlessTxErr
    split
    · exact .txError hs ‹_›
    · exact hf (Bool.eq_false_of_not_eq_true ‹_›)
  unfold State.stepRow State.selector
  cases hst : s.state <;> cases hdr : s.drain
  case sendLength.false =>
    refine ⟨_, rfl, tx _ (by simp [State.sending, hst]) fun he => ?_⟩
    split
    · exact .lengthByte hst hdr he ‹_›
    · exact .txWait (by simp [State.sending, hst]) he (Or.inl ⟨hdr, Bool.eq_false_of_not_eq_true ‹_›⟩)
  case sendLength.true =>
    refine ⟨_, rfl, tx _ (by simp [State.sending, hst]) fun he => ?_⟩
    split
    · exact .lengthDrained hst hdr he ‹_›
    · exact .txWait (by simp [State.sending, hst]) he (Or.inr ⟨hdr, Bool.eq_false_of_not_eq_true ‹_›⟩)
  case sendBody.false =>
    refine ⟨_, rfl, tx _ (by simp [State.sending, hst]) fun he => ?_⟩
    split
    · exact .bodyByte hst hdr he ‹_›
    · exact .txWait (by simp [State.sending, hst]) he (Or.inl ⟨hdr, Bool.eq_false_of_not_eq_true ‹_›⟩)
  case sendBody.true =>
    refine ⟨_, rfl, tx _ (by simp [State.sending, hst]) fun he => ?_⟩
    split
    · exact .bodyDrained hst hdr he ‹_›
    · exact .txWait (by simp [State.sending, hst]) he (Or.inr ⟨hdr, Bool.eq_false_of_not_eq_true ‹_›⟩)
  case awaitReady.false => exact ⟨_, rfl, awaitStep_move s t .ready hst⟩
  case awaitTrigger.false => exact ⟨_, rfl, awaitStep_move s t .trigger hst⟩
  case awaitAck.false => exact ⟨_, rfl, awaitStep_move s t .ack hst⟩
  case init.false => exact ⟨_, rfl, .idle (by simp [State.active, SessionState.active, hst])⟩
  case done.false => exact ⟨_, rfl, .idle (by simp [State.active, SessionState.active, hst])⟩
  case error.false => exact ⟨_, rfl, .idle (by simp [State.active, SessionState.active, hst])⟩
  all_goals
    exfalso
    have := hd hdr
    simp [hst] at this

/-- How a cycle without reset, from a legal state, can end. -/
inductive CycleMove (s : State) : State → Prop
  | abort (hab : s.abortsNow = true) (ha : s.active = true) :
      CycleMove s (s.endCycle ((s.withRdata 0).raiseError .cancelled))
  | rows (t u : State) (hab : s.abortsNow = false) (hp : (s.withRdata 0).busPhase s.busRow? = .next t)
      (hb : BusMove (s.withRdata 0) t) (he : EngineMove s t u) : CycleMove s (s.endCycle u)

/-- R180: from a state that satisfies R50, the two rows of a cycle complete. -/
theorem runRows_cases (s : State) (h : s.R50) : ∃ v, s.runRows = .next v ∧ CycleMove s v := by
  obtain ⟨t, ht, hcase⟩ := busPhase_cases s
  simp only [State.runRows, ht, andThen, State.enginePhase]
  rcases hcase with ⟨hab, ha, rfl⟩ | ⟨hab, hb⟩
  · rw [if_pos hab]; exact ⟨_, rfl, .abort hab ha⟩
  · rw [if_neg (by simp [hab])]
    obtain ⟨u, hu, he⟩ := exec_stepRow s t h.1.1
    rw [hu]; exact ⟨_, rfl, .rows t u hab ht hb he⟩

/-- R180: everything a step that answers a next state can have done. -/
theorem step_next {s v : State} (h : step s = .next v) :
    s.cfg.wf = true ∧
    ((s.input.rst = true ∧ v = s.endCycle (s.resetRegs.withRdata s.rdataPort)) ∨
     (s.input.rst = false ∧ s.R50 ∧ CycleMove s v)) := by
  unfold step cycle at h
  split at h
  · cases h
  · rename_i hw
    refine ⟨by simpa using hw, ?_⟩
    split at h
    · rename_i hr; left; exact ⟨hr, by cases h; rfl⟩
    · rename_i hr
      split at h
      · rename_i h50
        have h50' := (r50_iff s).1 h50
        obtain ⟨v', hv, hm⟩ := runRows_cases s h50'
        rw [hv] at h; cases h
        exact Or.inr ⟨by simpa using hr, h50', hm⟩
      · cases h

end Sys2Proof.Machine
end

