-- ==== Sys2Proof/Laws/Engine.lean ====
section
/-! SUPPORT. The engine does not look at the host's side: what a STEP row does, and which EVENTS bits it sets, is the
same whatever EVENTS, IRQ_EN, `bus_rdata` and the bus inputs are (`exec_stepRow_uniform`). -/

namespace Sys2Proof.Machine

/-- The ports the engine samples are the same in the two inputs (R46, R47). -/
def sameEnginePorts (i j : CycleInput) : Prop :=
  i.rxValid = j.rxValid ∧ i.rxData = j.rxData ∧ i.rxErr = j.rxErr ∧ i.txReady = j.txReady ∧
    i.txDrained = j.txDrained ∧ i.txErr = j.txErr

/-- The state with another host's side: EVENTS, IRQ_EN, `bus_rdata`, and the inputs to come. -/
def State.withHost (t : State) (ev en : BitVec 6) (rd : Word) (ins : List CycleInput) : State :=
  { t with events := ev, irqEn := en, busRdata := rd, inputs := ins }

/-- `f` does the same to a state with any host's side that brings the engine the inputs `i`, but for the host's side
itself, of which it only sets the EVENTS bits `m`. -/
def UniformAt (i : CycleInput) (t : State) (f : State → State) : Prop :=
  ∃ (m : BitVec 6) (u : State), ∀ ev en rd ins, sameEnginePorts (t.withHost ev en rd ins).input i →
    f (t.withHost ev en rd ins) = u.withHost (ev ||| m) en rd ins

theorem uniformAt_id (i : CycleInput) (t : State) : UniformAt i t fun x => x :=
  ⟨0, t, fun ev en rd ins _ => by rw [show ev ||| 0 = ev by simp]⟩

theorem uniformAt_awaitStep (i : CycleInput) (t : State) (g : Stage) : UniformAt i t fun x => x.awaitStep g := by
  cases he : i.rxErr
  case true =>
    refine ⟨Event.error.mask, t.raiseError .rxError, fun ev en rd ins h => ?_⟩
    simp only [State.awaitStep]
    rw [if_pos (h.2.2.1.trans he)]; rfl
  cases hd : t.deadlinePassed
  case true =>
    refine ⟨Event.error.mask, t.raiseError .deadlineExceeded, fun ev en rd ins h => ?_⟩
    simp only [State.awaitStep]
    rw [if_neg (by rw [h.2.2.1, he]; simp), if_pos (by exact hd)]; rfl
  cases hv : i.rxValid
  case false =>
    refine ⟨0, { t with stageCycles := satInc t.stageCycles }, fun ev en rd ins h => ?_⟩
    simp only [State.awaitStep]
    rw [if_neg (by rw [h.2.2.1, he]; simp), if_neg (by rw [show (t.withHost ev en rd ins).deadlinePassed = _ from hd]; simp)]
    rw [if_neg (by rw [h.1, hv]; simp), show ev ||| 0 = ev by simp]; rfl
  cases hm : (State.scanAppend { t with stageCycles := satInc t.stageCycles } g i.rxData).scanMatched g
  case true =>
    refine ⟨g.event.mask,
      ((State.scanAppend { t with stageCycles := satInc t.stageCycles } g i.rxData).setEvent g.event).stageExit g,
      fun ev en rd ins h => ?_⟩
    simp only [State.awaitStep]
    rw [if_neg (by rw [h.2.2.1, he]; simp), if_neg (by rw [show (t.withHost ev en rd ins).deadlinePassed = _ from hd]; simp)]
    rw [if_pos (by rw [h.1, hv]), h.2.1]
    simp only [State.scanByte]
    rw [if_pos (by exact hm)]
    cases g <;> rfl
  case false =>
    have hm' := (Bool.eq_false_iff).1 hm
    refine ⟨0, State.scanAppend { t with stageCycles := satInc t.stageCycles } g i.rxData, fun ev en rd ins h => ?_⟩
    simp only [State.awaitStep]
    rw [if_neg (by rw [h.2.2.1, he]; simp), if_neg (by rw [show (t.withHost ev en rd ins).deadlinePassed = _ from hd]; simp)]
    rw [if_pos (by rw [h.1, hv]), h.2.1]
    simp only [State.scanByte]
    rw [if_neg (by exact hm'), show ev ||| 0 = ev by simp]; rfl

theorem uniformAt_unlessTxErr (i : CycleInput) (t : State) (f : State → State) (h : UniformAt i t f) :
    UniformAt i t fun x => x.unlessTxErr f := by
  cases he : i.txErr
  case true =>
    refine ⟨Event.error.mask, t.raiseError .txError, fun ev en rd ins hp => ?_⟩
    simp only [State.unlessTxErr]
    rw [if_pos (hp.2.2.2.2.2.trans he)]; rfl
  case false =>
    obtain ⟨m, u, hf⟩ := h
    refine ⟨m, u, fun ev en rd ins hp => ?_⟩
    simp only [State.unlessTxErr]
    rw [if_neg (by rw [hp.2.2.2.2.2, he]; simp), hf ev en rd ins hp]

theorem uniformAt_whenReady (i : CycleInput) (t : State) (f : State → State) (h : UniformAt i t f) :
    UniformAt i t fun x => if x.input.txReady then f x else x := by
  cases he : i.txReady
  case true =>
    obtain ⟨m, u, hf⟩ := h
    exact ⟨m, u, fun ev en rd ins hp => by simp only; rw [if_pos (hp.2.2.2.1.trans he), hf ev en rd ins hp]⟩
  case false =>
    refine ⟨0, t, fun ev en rd ins hp => ?_⟩
    simp only
    rw [if_neg (by rw [hp.2.2.2.1, he]; simp), show ev ||| 0 = ev by simp]

theorem uniformAt_whenDrained (i : CycleInput) (t : State) (f : State → State) (h : UniformAt i t f) :
    UniformAt i t fun x => if x.input.txDrained then f x else x := by
  cases he : i.txDrained
  case true =>
    obtain ⟨m, u, hf⟩ := h
    exact ⟨m, u, fun ev en rd ins hp => by simp only; rw [if_pos (hp.2.2.2.2.1.trans he), hf ev en rd ins hp]⟩
  case false =>
    refine ⟨0, t, fun ev en rd ins hp => ?_⟩
    simp only
    rw [if_neg (by rw [hp.2.2.2.2.1, he]; simp), show ev ||| 0 = ev by simp]

/-- R109, R262, R292: the STEP row that `s` selects does the same on states with any host's side, and sets the same
EVENTS bits. -/
theorem exec_stepRow_uniform (s t : State) (i : CycleInput) (hd : s.DrainOk) :
    ∃ (m : BitVec 6) (u : State), ∀ ev en rd ins, sameEnginePorts (t.withHost ev en rd ins).input i →
      exec s.stepRow (t.withHost ev en rd ins) = .next (u.withHost (ev ||| m) en rd ins) := by
  have lift : ∀ f : State → State, UniformAt i t f →
      ∃ (m : BitVec 6) (u : State), ∀ ev en rd ins, sameEnginePorts (t.withHost ev en rd ins).input i →
        (.next (f (t.withHost ev en rd ins)) : Host.Outcome State Fault Refusal)
          = .next (u.withHost (ev ||| m) en rd ins) := by
    rintro f ⟨m, u, h⟩
    exact ⟨m, u, fun ev en rd ins hp => by rw [h ev en rd ins hp]⟩
  have same : ∀ ev : BitVec 6, ev = ev ||| 0 := by simp
  unfold State.stepRow State.selector
  cases hst : s.state <;> cases hdr : s.drain
  case init.false => exact lift _ (uniformAt_id i t)
  case done.false => exact lift _ (uniformAt_id i t)
  case error.false => exact lift _ (uniformAt_id i t)
  case awaitReady.false => exact lift _ (uniformAt_awaitStep i t .ready)
  case awaitTrigger.false => exact lift _ (uniformAt_awaitStep i t .trigger)
  case awaitAck.false => exact lift _ (uniformAt_awaitStep i t .ack)
  case sendLength.false =>
    exact lift _ (uniformAt_unlessTxErr i t _ (uniformAt_whenReady i t _
      ⟨0, t.lengthByteTaken, fun ev _ _ _ _ => by rw [← same]; rfl⟩))
  case sendBody.false =>
    exact lift _ (uniformAt_unlessTxErr i t _ (uniformAt_whenReady i t _
      ⟨0, t.bodyByteTaken, fun ev _ _ _ _ => by rw [← same]; rfl⟩))
  case sendLength.true =>
    exact lift _ (uniformAt_unlessTxErr i t _ (uniformAt_whenDrained i t _
      ⟨Event.lenSent.mask, t.lengthDrained, fun _ _ _ _ _ => rfl⟩))
  case sendBody.true =>
    exact lift _ (uniformAt_unlessTxErr i t _ (uniformAt_whenDrained i t _
      ⟨Event.done.mask, t.bodyDrained, fun _ _ _ _ _ => rfl⟩))
  all_goals
    exfalso
    have := hd hdr
    simp [hst] at this

end Sys2Proof.Machine
end

