-- ==== Sys2Proof/Laws/Memory.lean ====
section
/-! SUPPORT. PMEM: a read after a write, what a write leaves alone, and that every memory operation keeps the
canonical form and the address range. -/

namespace Sys2Proof.Machine

theorem Memory.read?_write_same (m : Memory) (a : Nat) (v : Byte) : (m.write a v).read? a = some v := by
  induction m with
  | nil => simp [Memory.write, Memory.read?]
  | cons c rest ih =>
    obtain ⟨x, w⟩ := c
    simp only [Memory.write]
    split
    · simp [Memory.read?]
    · split
      · simp [Memory.read?]
      · rename_i _ hne
        simp [Memory.read?, Ne.symm hne, ih]

theorem Memory.read?_write_other (m : Memory) (a b : Nat) (v : Byte) (h : b ≠ a) :
    (m.write a v).read? b = m.read? b := by
  induction m with
  | nil => simp [Memory.write, Memory.read?, Ne.symm h]
  | cons c rest ih =>
    obtain ⟨x, w⟩ := c
    simp only [Memory.write]
    split
    · simp [Memory.read?, Ne.symm h]
    · split
      · subst_vars; simp [Memory.read?, Ne.symm h]
      · simp [Memory.read?, ih]

@[simp] theorem memRead_write_same (m : Memory) (a : Nat) (v : Byte) : memRead (m.write a v) a = v := by
  simp [memRead, Memory.read?_write_same]

theorem memRead_write_other (m : Memory) (a b : Nat) (v : Byte) (h : b ≠ a) :
    memRead (m.write a v) b = memRead m b := by
  simp [memRead, Memory.read?_write_other m a b v h]

/-- The canonical form, read from the front: every later address is above the first. -/
theorem Memory.wf_cons (c : Host.Cell) (m : Memory) :
    Memory.wf (c :: m) = true ↔ (∀ d ∈ m, c.1 < d.1) ∧ m.wf = true := by
  induction m generalizing c with
  | nil => simp [Memory.wf]
  | cons d rest ih =>
    simp only [Memory.wf, Bool.and_eq_true, decide_eq_true_eq, List.forall_mem_cons]
    constructor
    · rintro ⟨h, hw⟩
      exact ⟨⟨h, fun e he => h.trans (((ih d).1 hw).1 e he)⟩, hw⟩
    · rintro ⟨⟨h, -⟩, hw⟩
      exact ⟨h, hw⟩

theorem Memory.mem_write (m : Memory) (a : Nat) (v : Byte) :
    ∀ d ∈ m.write a v, d = (a, v) ∨ d ∈ m := by
  induction m with
  | nil => simp [Memory.write]
  | cons c rest ih =>
    obtain ⟨x, w⟩ := c
    simp only [Memory.write]
    split
    · simp
    · split
      · intro d hd; rcases List.mem_cons.1 hd with rfl | hd <;> simp_all
      · intro d hd
        rcases List.mem_cons.1 hd with rfl | hd
        · simp
        · rcases ih d hd with rfl | hd <;> simp_all

theorem Memory.wf_write (m : Memory) (a : Nat) (v : Byte) (h : m.wf = true) : (m.write a v).wf = true := by
  induction m with
  | nil => simp [Memory.write, Memory.wf]
  | cons c rest ih =>
    obtain ⟨x, w⟩ := c
    obtain ⟨hlt, hrest⟩ := (Memory.wf_cons _ _).1 h
    simp only [Memory.write]
    split
    · rename_i hax
      refine (Memory.wf_cons _ _).2 ⟨?_, h⟩
      intro d hd
      rcases List.mem_cons.1 hd with rfl | hd
      · exact hax
      · exact hax.trans (hlt d hd)
    · rename_i hax
      split
      · subst_vars; exact (Memory.wf_cons _ _).2 ⟨hlt, hrest⟩
      · rename_i hne
        refine (Memory.wf_cons _ _).2 ⟨?_, ih hrest⟩
        intro d hd
        rcases Memory.mem_write rest a v d hd with rfl | hd
        · show x < a; omega
        · exact hlt d hd

theorem Memory.inRange_write (m : Memory) (cap a : Nat) (v : Byte) (h : m.inRange cap = true) (ha : a < cap) :
    (m.write a v).inRange cap = true := by
  simp only [Memory.inRange, List.all_eq_true, decide_eq_true_eq] at h ⊢
  intro d hd
  rcases Memory.mem_write m a v d hd with rfl | hd
  · exact ha
  · exact h d hd

/-- A PMEM_DATA store keeps the canonical form, at any address. -/
theorem pmemStore_wf (s : State) (b : Byte) (h : s.pmem.wf = true) : (s.pmemStore b).pmem.wf = true := by
  simp only [State.pmemStore]
  split
  · exact Memory.wf_write _ _ _ h
  · exact h

/-- A PMEM_DATA store never lists an address that does not exist. -/
theorem pmemStore_inRange (s : State) (b : Byte) (h : s.pmem.inRange s.cfg.payloadCap.toNat = true) :
    (s.pmemStore b).pmem.inRange s.cfg.payloadCap.toNat = true := by
  simp only [State.pmemStore]
  split
  · exact Memory.inRange_write _ _ _ _ h (by simpa [BitVec.lt_def] using ‹_›)
  · exact h

theorem reset_pmem_wf : State.reset.pmem.wf = true := rfl

end Sys2Proof.Machine
end

