-- ==== Sys2Proof/Laws/PerInstr.lean ====
section
/-! SUPPORT. The family `TableWord`: the word of a well-formed instruction lies in its own row of
spec/opcode_table.json, the row's mask applied to the word giving the row's match word (30_encoding.md R80, R83,
R84). One lemma per constructor. -/

open Sys2Proof

/-- A word under a mask is a match word, in one of the two formats. -/
def Sys2Proof.Laws.underMask : OpWord → OpWord → OpWord → Prop
  | .bus t, .bus mask, .bus value => t &&& mask = value
  | .step w, .step mask, .step value => w &&& mask = value
  | .bus _, .step _, _ | .step _, .bus _, _ | .bus _, .bus _, .step _ | .step _, .step _, .bus _ => False

/-- The mask and the match word of an instruction's row, as spec/opcode_table.json writes them. -/
def Sys2Proof.Laws.tableRow : Instr → OpWord × OpWord
  | .rdId _ => (.bus 0x1FF00000000, .bus 0x00000000000)
  | .rdCtrl _ => (.bus 0x1FF00000000, .bus 0x00400000000)
  | .rdStatus _ => (.bus 0x1FF00000000, .bus 0x00800000000)
  | .rdMode _ => (.bus 0x1FF00000000, .bus 0x00C00000000)
  | .rdPayloadLen _ => (.bus 0x1FF00000000, .bus 0x01000000000)
  | .rdDeadline _ => (.bus 0x1FF00000000, .bus 0x01400000000)
  | .rdPmemAddr _ => (.bus 0x1FF00000000, .bus 0x01800000000)
  | .rdPmemData _ => (.bus 0x1FF00000000, .bus 0x01C00000000)
  | .rdScanCount _ => (.bus 0x1FF00000000, .bus 0x02000000000)
  | .rdTxCount _ => (.bus 0x1FF00000000, .bus 0x02400000000)
  | .rdEvents _ => (.bus 0x1FF00000000, .bus 0x02800000000)
  | .rdIrqEn _ => (.bus 0x1FF00000000, .bus 0x02C00000000)
  | .rdPayloadCap _ => (.bus 0x1FF00000000, .bus 0x03000000000)
  | .rdMarkerInfo _ => (.bus 0x1FF00000000, .bus 0x03400000000)
  | .rdStageCycles _ => (.bus 0x1FF00000000, .bus 0x03800000000)
  | .wrId _ => (.bus 0x1FF00000000, .bus 0x10000000000)
  | .wrCtrl _ => (.bus 0x1FF00000000, .bus 0x10400000000)
  | .wrStatus _ => (.bus 0x1FF00000000, .bus 0x10800000000)
  | .wrMode _ => (.bus 0x1FF00000000, .bus 0x10C00000000)
  | .wrPayloadLen _ => (.bus 0x1FF00000000, .bus 0x11000000000)
  | .wrDeadline _ => (.bus 0x1FF00000000, .bus 0x11400000000)
  | .wrPmemAddr _ => (.bus 0x1FF00000000, .bus 0x11800000000)
  | .wrPmemData _ => (.bus 0x1FF00000000, .bus 0x11C00000000)
  | .wrScanCount _ => (.bus 0x1FF00000000, .bus 0x12000000000)
  | .wrTxCount _ => (.bus 0x1FF00000000, .bus 0x12400000000)
  | .wrEvents _ => (.bus 0x1FF00000000, .bus 0x12800000000)
  | .wrIrqEn _ => (.bus 0x1FF00000000, .bus 0x12C00000000)
  | .wrPayloadCap _ => (.bus 0x1FF00000000, .bus 0x13000000000)
  | .wrMarkerInfo _ => (.bus 0x1FF00000000, .bus 0x13400000000)
  | .wrStageCycles _ => (.bus 0x1FF00000000, .bus 0x13800000000)
  | .rdRsvd _ _ => (.bus 0x10000000000, .bus 0x00000000000)
  | .wrRsvd _ _ => (.bus 0x10000000000, .bus 0x10000000000)
  | .stepInit => (.step 0xF, .step 0x0)
  | .stepAwaitReady => (.step 0xF, .step 0x1)
  | .stepAwaitTrigger => (.step 0xF, .step 0x2)
  | .stepSendLength => (.step 0xF, .step 0x3)
  | .stepAwaitAck => (.step 0xF, .step 0x4)
  | .stepSendBody => (.step 0xF, .step 0x5)
  | .stepDone => (.step 0xF, .step 0x6)
  | .stepError => (.step 0xF, .step 0x7)
  | .stepDrainLength => (.step 0xF, .step 0xB)
  | .stepDrainBody => (.step 0xF, .step 0xD)
  | .stepUnreachable1000 => (.step 0xF, .step 0x8)
  | .stepUnreachable1001 => (.step 0xF, .step 0x9)
  | .stepUnreachable1010 => (.step 0xF, .step 0xA)
  | .stepUnreachable1100 => (.step 0xF, .step 0xC)
  | .stepUnreachable1110 => (.step 0xF, .step 0xE)
  | .stepUnreachable1111 => (.step 0xF, .step 0xF)

/-- The word of a well-formed instruction lies in the instruction's row of the opcode table. -/
def Sys2Proof.Laws.TableWord.Statement (i : Instr) : Prop :=
  i.wf = true →
    Sys2Proof.Laws.underMask (encodeWord i) (Sys2Proof.Laws.tableRow i).1 (Sys2Proof.Laws.tableRow i).2

/-- WE and OFF alone are under a mapped row's mask. -/
theorem Sys2Proof.Laws.busWord_mask (we : Bool) (off : BitVec 8) (d : Word) :
    busWord we off d &&& 0x1FF00000000 = busWord we off 0 := by
  have h : (0x1FF00000000 : BitVec 41) = busWord true 0xFF 0 := rfl
  rw [h]
  apply BitVec.eq_of_getLsbD_eq
  intro k hk
  simp only [busWord, BitVec.getLsbD_and, BitVec.getLsbD_append]
  split
  · simp
  · split
    · have : (255 : BitVec 8) = BitVec.allOnes 8 := rfl
      rw [this, BitVec.getLsbD_allOnes]; simp_all
    · cases we <;> simp_all

/-- WE alone is under the reserved rows' mask. -/
theorem Sys2Proof.Laws.busWord_we (we : Bool) (off : BitVec 8) (d : Word) :
    busWord we off d &&& 0x10000000000 = busWord we 0 0 := by
  have h : (0x10000000000 : BitVec 41) = busWord true 0 0 := rfl
  rw [h]
  apply BitVec.eq_of_getLsbD_eq
  intro k hk
  simp only [busWord, BitVec.getLsbD_and, BitVec.getLsbD_append]
  split
  · simp
  · split
    · simp
    · cases we <;> simp_all

theorem Sys2Proof.Laws.TableWord.rdId (d : Word) : Sys2Proof.Laws.TableWord.Statement (.rdId d) :=
  fun _ => Sys2Proof.Laws.busWord_mask false 0x00 d
theorem Sys2Proof.Laws.TableWord.rdCtrl (d : Word) : Sys2Proof.Laws.TableWord.Statement (.rdCtrl d) :=
  fun _ => Sys2Proof.Laws.busWord_mask false 0x04 d
theorem Sys2Proof.Laws.TableWord.rdStatus (d : Word) : Sys2Proof.Laws.TableWord.Statement (.rdStatus d) :=
  fun _ => Sys2Proof.Laws.busWord_mask false 0x08 d
theorem Sys2Proof.Laws.TableWord.rdMode (d : Word) : Sys2Proof.Laws.TableWord.Statement (.rdMode d) :=
  fun _ => Sys2Proof.Laws.busWord_mask false 0x0C d
theorem Sys2Proof.Laws.TableWord.rdPayloadLen (d : Word) : Sys2Proof.Laws.TableWord.Statement (.rdPayloadLen d) :=
  fun _ => Sys2Proof.Laws.busWord_mask false 0x10 d
theorem Sys2Proof.Laws.TableWord.rdDeadline (d : Word) : Sys2Proof.Laws.TableWord.Statement (.rdDeadline d) :=
  fun _ => Sys2Proof.Laws.busWord_mask false 0x14 d
theorem Sys2Proof.Laws.TableWord.rdPmemAddr (d : Word) : Sys2Proof.Laws.TableWord.Statement (.rdPmemAddr d) :=
  fun _ => Sys2Proof.Laws.busWord_mask false 0x18 d
theorem Sys2Proof.Laws.TableWord.rdPmemData (d : Word) : Sys2Proof.Laws.TableWord.Statement (.rdPmemData d) :=
  fun _ => Sys2Proof.Laws.busWord_mask false 0x1C d
theorem Sys2Proof.Laws.TableWord.rdScanCount (d : Word) : Sys2Proof.Laws.TableWord.Statement (.rdScanCount d) :=
  fun _ => Sys2Proof.Laws.busWord_mask false 0x20 d
theorem Sys2Proof.Laws.TableWord.rdTxCount (d : Word) : Sys2Proof.Laws.TableWord.Statement (.rdTxCount d) :=
  fun _ => Sys2Proof.Laws.busWord_mask false 0x24 d
theorem Sys2Proof.Laws.TableWord.rdEvents (d : Word) : Sys2Proof.Laws.TableWord.Statement (.rdEvents d) :=
  fun _ => Sys2Proof.Laws.busWord_mask false 0x28 d
theorem Sys2Proof.Laws.TableWord.rdIrqEn (d : Word) : Sys2Proof.Laws.TableWord.Statement (.rdIrqEn d) :=
  fun _ => Sys2Proof.Laws.busWord_mask false 0x2C d
theorem Sys2Proof.Laws.TableWord.rdPayloadCap (d : Word) : Sys2Proof.Laws.TableWord.Statement (.rdPayloadCap d) :=
  fun _ => Sys2Proof.Laws.busWord_mask false 0x30 d
theorem Sys2Proof.Laws.TableWord.rdMarkerInfo (d : Word) : Sys2Proof.Laws.TableWord.Statement (.rdMarkerInfo d) :=
  fun _ => Sys2Proof.Laws.busWord_mask false 0x34 d
theorem Sys2Proof.Laws.TableWord.rdStageCycles (d : Word) : Sys2Proof.Laws.TableWord.Statement (.rdStageCycles d) :=
  fun _ => Sys2Proof.Laws.busWord_mask false 0x38 d
theorem Sys2Proof.Laws.TableWord.wrId (d : Word) : Sys2Proof.Laws.TableWord.Statement (.wrId d) :=
  fun _ => Sys2Proof.Laws.busWord_mask true 0x00 d
theorem Sys2Proof.Laws.TableWord.wrCtrl (d : Word) : Sys2Proof.Laws.TableWord.Statement (.wrCtrl d) :=
  fun _ => Sys2Proof.Laws.busWord_mask true 0x04 d
theorem Sys2Proof.Laws.TableWord.wrStatus (d : Word) : Sys2Proof.Laws.TableWord.Statement (.wrStatus d) :=
  fun _ => Sys2Proof.Laws.busWord_mask true 0x08 d
theorem Sys2Proof.Laws.TableWord.wrMode (d : Word) : Sys2Proof.Laws.TableWord.Statement (.wrMode d) :=
  fun _ => Sys2Proof.Laws.busWord_mask true 0x0C d
theorem Sys2Proof.Laws.TableWord.wrPayloadLen (d : Word) : Sys2Proof.Laws.TableWord.Statement (.wrPayloadLen d) :=
  fun _ => Sys2Proof.Laws.busWord_mask true 0x10 d
theorem Sys2Proof.Laws.TableWord.wrDeadline (d : Word) : Sys2Proof.Laws.TableWord.Statement (.wrDeadline d) :=
  fun _ => Sys2Proof.Laws.busWord_mask true 0x14 d
theorem Sys2Proof.Laws.TableWord.wrPmemAddr (d : Word) : Sys2Proof.Laws.TableWord.Statement (.wrPmemAddr d) :=
  fun _ => Sys2Proof.Laws.busWord_mask true 0x18 d
theorem Sys2Proof.Laws.TableWord.wrPmemData (d : Word) : Sys2Proof.Laws.TableWord.Statement (.wrPmemData d) :=
  fun _ => Sys2Proof.Laws.busWord_mask true 0x1C d
theorem Sys2Proof.Laws.TableWord.wrScanCount (d : Word) : Sys2Proof.Laws.TableWord.Statement (.wrScanCount d) :=
  fun _ => Sys2Proof.Laws.busWord_mask true 0x20 d
theorem Sys2Proof.Laws.TableWord.wrTxCount (d : Word) : Sys2Proof.Laws.TableWord.Statement (.wrTxCount d) :=
  fun _ => Sys2Proof.Laws.busWord_mask true 0x24 d
theorem Sys2Proof.Laws.TableWord.wrEvents (d : Word) : Sys2Proof.Laws.TableWord.Statement (.wrEvents d) :=
  fun _ => Sys2Proof.Laws.busWord_mask true 0x28 d
theorem Sys2Proof.Laws.TableWord.wrIrqEn (d : Word) : Sys2Proof.Laws.TableWord.Statement (.wrIrqEn d) :=
  fun _ => Sys2Proof.Laws.busWord_mask true 0x2C d
theorem Sys2Proof.Laws.TableWord.wrPayloadCap (d : Word) : Sys2Proof.Laws.TableWord.Statement (.wrPayloadCap d) :=
  fun _ => Sys2Proof.Laws.busWord_mask true 0x30 d
theorem Sys2Proof.Laws.TableWord.wrMarkerInfo (d : Word) : Sys2Proof.Laws.TableWord.Statement (.wrMarkerInfo d) :=
  fun _ => Sys2Proof.Laws.busWord_mask true 0x34 d
theorem Sys2Proof.Laws.TableWord.wrStageCycles (d : Word) : Sys2Proof.Laws.TableWord.Statement (.wrStageCycles d) :=
  fun _ => Sys2Proof.Laws.busWord_mask true 0x38 d
theorem Sys2Proof.Laws.TableWord.rdRsvd (off : BitVec 8) (d : Word) : Sys2Proof.Laws.TableWord.Statement (.rdRsvd off d) :=
  fun _ => Sys2Proof.Laws.busWord_we false off d
theorem Sys2Proof.Laws.TableWord.wrRsvd (off : BitVec 8) (d : Word) : Sys2Proof.Laws.TableWord.Statement (.wrRsvd off d) :=
  fun _ => Sys2Proof.Laws.busWord_we true off d
theorem Sys2Proof.Laws.TableWord.stepInit : Sys2Proof.Laws.TableWord.Statement .stepInit := fun _ => rfl
theorem Sys2Proof.Laws.TableWord.stepAwaitReady : Sys2Proof.Laws.TableWord.Statement .stepAwaitReady := fun _ => rfl
theorem Sys2Proof.Laws.TableWord.stepAwaitTrigger : Sys2Proof.Laws.TableWord.Statement .stepAwaitTrigger := fun _ => rfl
theorem Sys2Proof.Laws.TableWord.stepSendLength : Sys2Proof.Laws.TableWord.Statement .stepSendLength := fun _ => rfl
theorem Sys2Proof.Laws.TableWord.stepAwaitAck : Sys2Proof.Laws.TableWord.Statement .stepAwaitAck := fun _ => rfl
theorem Sys2Proof.Laws.TableWord.stepSendBody : Sys2Proof.Laws.TableWord.Statement .stepSendBody := fun _ => rfl
theorem Sys2Proof.Laws.TableWord.stepDone : Sys2Proof.Laws.TableWord.Statement .stepDone := fun _ => rfl
theorem Sys2Proof.Laws.TableWord.stepError : Sys2Proof.Laws.TableWord.Statement .stepError := fun _ => rfl
theorem Sys2Proof.Laws.TableWord.stepDrainLength : Sys2Proof.Laws.TableWord.Statement .stepDrainLength := fun _ => rfl
theorem Sys2Proof.Laws.TableWord.stepDrainBody : Sys2Proof.Laws.TableWord.Statement .stepDrainBody := fun _ => rfl
theorem Sys2Proof.Laws.TableWord.stepUnreachable1000 : Sys2Proof.Laws.TableWord.Statement .stepUnreachable1000 := fun _ => rfl
theorem Sys2Proof.Laws.TableWord.stepUnreachable1001 : Sys2Proof.Laws.TableWord.Statement .stepUnreachable1001 := fun _ => rfl
theorem Sys2Proof.Laws.TableWord.stepUnreachable1010 : Sys2Proof.Laws.TableWord.Statement .stepUnreachable1010 := fun _ => rfl
theorem Sys2Proof.Laws.TableWord.stepUnreachable1100 : Sys2Proof.Laws.TableWord.Statement .stepUnreachable1100 := fun _ => rfl
theorem Sys2Proof.Laws.TableWord.stepUnreachable1110 : Sys2Proof.Laws.TableWord.Statement .stepUnreachable1110 := fun _ => rfl
theorem Sys2Proof.Laws.TableWord.stepUnreachable1111 : Sys2Proof.Laws.TableWord.Statement .stepUnreachable1111 := fun _ => rfl
end

