-- ==== Sys2Proof/Laws/Scanner.lean ====
section
/-! SUPPORT. The scanner registers as functions of the ghost ScanBuffer (R42): what one more byte does to each, and
that the match tests on the registers are the reference predicates on the ScanBuffer (R106). -/

namespace Sys2Proof.Machine

@[simp] theorem countOf_nil : countOf [] = 0 := rfl

@[simp] theorem windowOf_nil (w : Nat) : windowOf w [] = List.replicate w 0 := by simp [windowOf]

@[simp] theorem windowOf_length (w : Nat) (sb : List Byte) : (windowOf w sb).length = w := by simp [windowOf]

theorem countOf_toNat (sb : List Byte) : (countOf sb).toNat = min sb.length (2 ^ 32 - 1) := by
  simp only [countOf, BitVec.toNat_ofNat]; omega

theorem satInc_toNat (v : Word) : (satInc v).toNat = min (v.toNat + 1) (2 ^ 32 - 1) := by
  simp only [satInc, BitVec.toNat_ofNat]; omega

theorem countOf_append (sb : List Byte) (b : Byte) : countOf (sb ++ [b]) = satInc (countOf sb) := by
  apply BitVec.eq_of_toNat_eq
  rw [satInc_toNat, countOf_toNat, countOf_toNat, List.length_append]
  simp only [List.length_singleton]; omega

theorem windowOf_append (w : Nat) (sb : List Byte) (b : Byte) (hw : 1 ≤ w) :
    windowOf w (sb ++ [b]) = (windowOf w sb).tail ++ [b] := by
  simp only [windowOf, List.length_append, List.length_singleton, List.tail_drop, ← List.append_assoc]
  rw [List.drop_append_of_le_length]
  simp only [List.length_append, List.length_replicate]; omega

/-- `containsRun` decides the contiguous-run relation. -/
theorem containsRun_iff (m l : List Byte) : containsRun m l = true ↔ m <:+: l := by
  induction l with
  | nil => simp [containsRun]
  | cons b rest ih => simp [containsRun, ih, List.infix_cons_iff]

/-- The window test of R102 on the last bytes of SB: the marker is a suffix of SB. -/
theorem containsMatch_iff (m sb : List Byte) (w : Nat) (hm : m.length ≤ w) (h15 : m.length ≤ 15) :
    containsMatch m (windowOf w sb) (countOf sb) = true ↔ m <:+ sb := by
  simp only [containsMatch, Bool.and_eq_true, decide_eq_true_eq, countOf_toNat, windowOf_length]
  constructor
  · rintro ⟨hc, hd⟩
    have hlen : m.length ≤ sb.length := by omega
    rw [← hd, windowOf, List.drop_drop, List.drop_append]
    simp only [List.length_replicate]
    rw [List.drop_eq_nil_of_le (by simp only [List.length_replicate]; omega), List.nil_append]
    exact List.drop_suffix _ _
  · intro h
    have hlen := h.length_le
    refine ⟨by omega, ?_⟩
    rw [windowOf, List.drop_drop, List.drop_append]
    simp only [List.length_replicate]
    rw [List.drop_eq_nil_of_le (by simp only [List.length_replicate]; omega), List.nil_append]
    obtain ⟨p, rfl⟩ := h
    exact List.drop_left' (by simp only [List.length_append] at hlen ⊢; omega)

/-- R106, contains mode: after a byte, the marker occurs in SB exactly when it occurred before or ends at that byte. -/
theorem run_append_iff (m sb : List Byte) (b : Byte) :
    m <:+: sb ++ [b] ↔ m <:+: sb ∨ m <:+ sb ++ [b] := by
  rw [List.infix_concat_iff]; tauto

@[simp] theorem divergesFrom_nil_left (sb : List Byte) : divergesFrom [] sb = false := by simp [divergesFrom]

@[simp] theorem divergesFrom_nil_right (m : List Byte) : divergesFrom m [] = false := by simp [divergesFrom]

theorem divergesFrom_cons (x y : Byte) (m sb : List Byte) :
    divergesFrom (x :: m) (y :: sb) = (decide (x ≠ y) || divergesFrom m sb) := by
  simp [divergesFrom]

/-- R42's divergence, position by position. -/
theorem divergesFrom_append (m sb : List Byte) (b : Byte) :
    divergesFrom m (sb ++ [b]) = (divergesFrom m sb || differsAt m sb.length b) := by
  induction m generalizing sb with
  | nil => simp [differsAt]
  | cons x rest ih =>
    cases sb with
    | nil => simp [divergesFrom_cons, differsAt, eq_comm]
    | cons y tl => simp [divergesFrom_cons, ih tl, differsAt, Bool.or_assoc]

/-- A ScanBuffer that has not diverged and is at least as long as the marker starts with it. -/
theorem divergesFrom_false_iff (m sb : List Byte) (h : m.length ≤ sb.length) :
    divergesFrom m sb = false ↔ m <+: sb := by
  induction m generalizing sb with
  | nil => simp
  | cons x rest ih =>
    cases sb with
    | nil => simp at h
    | cons y tl => simp [divergesFrom_cons, List.cons_prefix_cons, ih tl (by simpa using h)]

/-- The test `i < M and b != m[i]` at a saturated count is the test at the length of SB: both are past the marker. -/
theorem differsAt_countOf (m sb : List Byte) (b : Byte) (h15 : m.length ≤ 15) :
    differsAt m (countOf sb).toNat b = differsAt m sb.length b := by
  rw [countOf_toNat]
  by_cases h : sb.length ≤ 2 ^ 32 - 1
  · rw [min_eq_left h]
  · rw [min_eq_right (by omega)]
    simp only [differsAt]
    rw [List.getElem?_eq_none (by omega), List.getElem?_eq_none (by omega)]

/-- R106, exact mode: no divergence and exactly M bytes is equality with the marker. -/
theorem exactMatch_iff (m sb : List Byte) (h15 : m.length ≤ 15) :
    exactMatch m (countOf sb) (divergesFrom m sb) = true ↔ sb = m := by
  simp only [exactMatch, Bool.and_eq_true, Bool.not_eq_true', decide_eq_true_eq, countOf_toNat]
  constructor
  · rintro ⟨hd, hc⟩
    have hlen : sb.length = m.length := by omega
    exact (((divergesFrom_false_iff m sb hlen.ge).1 hd).eq_of_length hlen.symm).symm
  · rintro rfl
    exact ⟨(divergesFrom_false_iff sb sb le_rfl).2 (List.prefix_rfl), by omega⟩

/-- The length bounds of a stage's marker in a build that R6 allows. -/
theorem marker_bounds (c : BuildConfig) (h : c.wf = true) (g : Stage) :
    1 ≤ (g.marker c).length ∧ (g.marker c).length ≤ 15 ∧ (g.marker c).length ≤ c.maxMarkerLen := by
  simp only [BuildConfig.wf, markerLengthOk, Bool.and_eq_true, decide_eq_true_eq] at h
  cases g <;> simp only [Stage.marker, BuildConfig.maxMarkerLen] <;> omega

/-- R42 after one more byte: the registers ScanConsume writes agree with the longer SB. -/
theorem scanAppend_agrees (s : State) (g : Stage) (b : Byte) (hc : s.cfg.wf = true) (h : s.ScanAgrees g) :
    (s.scanAppend g b).scanCount = countOf (s.scanBuf ++ [b]) ∧
    (s.scanAppend g b).scanWin = windowOf s.cfg.maxMarkerLen (s.scanBuf ++ [b]) ∧
    (s.scanAppend g b).diverged = (g.exact s.mode && divergesFrom (g.marker s.cfg) (s.scanBuf ++ [b])) := by
  obtain ⟨hcnt, hwin, hdiv, -⟩ := h
  obtain ⟨h1, h15, hle⟩ := marker_bounds s.cfg hc g
  refine ⟨?_, ?_, ?_⟩
  · simp [countOf_append, hcnt]
  · rw [windowOf_append _ _ _ (by omega), ← hwin]; rfl
  · rw [scanAppend_diverged, State.nextDiverged, hcnt, differsAt_countOf _ _ _ h15, hdiv, divergesFrom_append]
    cases g.exact s.mode <;> simp

theorem scanMatched_exact (t : State) (g : Stage) (h : g.exact t.mode = true) :
    t.scanMatched g = exactMatch (g.marker t.cfg) t.scanCount t.diverged := if_pos h

theorem scanMatched_contains (t : State) (g : Stage) (h : ¬ g.exact t.mode = true) :
    t.scanMatched g = containsMatch (g.marker t.cfg) t.scanWin t.scanCount := if_neg h

/-- R106: the match test on the registers after a byte is the reference predicate on SB. -/
theorem scanMatched_iff (s : State) (g : Stage) (b : Byte) (hc : s.cfg.wf = true) (h : s.ScanAgrees g) :
    (s.scanAppend g b).scanMatched g = true ↔ g.satisfied s (s.scanBuf ++ [b]) := by
  obtain ⟨hcnt, hwin, hdiv⟩ := scanAppend_agrees s g b hc h
  obtain ⟨h1, h15, hle⟩ := marker_bounds s.cfg hc g
  by_cases he : g.exact s.mode = true
  · rw [scanMatched_exact (s.scanAppend g b) g he, Stage.satisfied, if_pos he, hcnt, hdiv, he, Bool.true_and,
      scanAppend_cfg, exactMatch_iff _ _ h15]
  · rw [scanMatched_contains (s.scanAppend g b) g he, Stage.satisfied, if_neg he, hcnt, hwin, scanAppend_cfg,
      containsMatch_iff _ _ _ hle h15, run_append_iff]
    have hn := h.2.2.2
    simp only [notYetMatched, if_neg he, Bool.not_eq_true'] at hn
    have : ¬ g.marker s.cfg <:+: s.scanBuf := by
      rw [← containsRun_iff, hn]; simp
    tauto

/-- R50 item 8 after a byte that did not match. -/
theorem notYetMatched_append (s : State) (g : Stage) (b : Byte) (hc : s.cfg.wf = true) (h : s.ScanAgrees g)
    (hm : ¬ (s.scanAppend g b).scanMatched g = true) :
    notYetMatched (g.exact s.mode) (g.marker s.cfg) (s.scanBuf ++ [b]) = true := by
  rw [scanMatched_iff s g b hc h, Stage.satisfied] at hm
  have hn := h.2.2.2
  cases he : g.exact s.mode <;> simp only [he, notYetMatched, Bool.false_eq_true, if_false, if_true,
    Bool.not_eq_true'] at hm hn ⊢
  · rw [← Bool.not_eq_true, containsRun_iff]; exact hm
  · rw [← Bool.not_eq_true, List.isPrefixOf_iff_prefix] at hn ⊢
    intro hp
    rcases List.prefix_concat_iff.1 hp with heq | hp
    · exact hm heq.symm
    · exact hn hp

/-- A stage on a fresh ScanBuffer agrees with it, and has not matched. -/
theorem scanEnter_agrees (s : State) (g : Stage) (hc : s.cfg.wf = true) : s.scanEnter.ScanAgrees g := by
  obtain ⟨h1, -, -⟩ := marker_bounds s.cfg hc g
  have hne : g.marker s.cfg ≠ [] := by intro hnil; simp [hnil] at h1
  refine ⟨rfl, by simp, by simp [divergesFrom], ?_⟩
  simp only [notYetMatched, scanEnter_mode, scanEnter_cfg, scanEnter_scanBuf]
  cases hm : g.marker s.cfg with
  | nil => exact absurd hm hne
  | cons x xs => simp [containsRun]

end Sys2Proof.Machine
end

