-- ==== Sys2Proof/Tests/Slice0.lean ====
section
/-! SUPPORT. Tests of the model, each a named theorem proved by `decide`: the well-formedness smoke tests, one word of
every row written out from its encoding, one step of every instruction on a small state with the value the spec's
vectors give (95_test_vectors.md; the vector is named in the comment), and for every statement with hypotheses a
concrete state that meets them, clause by clause. -/

namespace Sys2Proof.Machine

/-! ### Helpers -/

/-- The outcome is a next state, and it passes the check. -/
def goesTo (o : Host.Outcome State Fault Refusal) (p : State → Bool) : Bool :=
  match o with
  | .next t => p t
  | .fault _ => false
  | .refused _ => false

/-- The outcome is the fault InvariantViolated. -/
def violates (o : Host.Outcome State Fault Refusal) : Bool :=
  match o with
  | .next _ => false
  | .fault .invariantViolated => true
  | .refused _ => false

/-- A legal state after reset but for STATE and DRAIN, with one quiet cycle listed. -/
def at_ (st : SessionState) (dr : Bool) : State :=
  { State.reset with
    state := st
    drain := dr
    lenIdx := lenIdxAt dr st
    payloadLen := 3
    txCount := if st = .done ∨ (st = .sendBody ∧ dr = true) then 3 else 0
    errCause := if st = .error then 4 else 0
    pmem := [(0, 0xA0), (1, 0xA1), (2, 0xA2)]
    inputs := [CycleInput.idle] }

/-- A stage that has consumed `sb`, in the mode `m`. -/
def stageAt (g : Stage) (m : BitVec 3) (sb : List Byte) : State :=
  { at_ g.state false with
    mode := m
    scanCount := countOf sb
    scanWin := windowOf 8 sb
    diverged := g.exact m && divergesFrom (g.marker BuildConfig.default) sb
    scanBuf := sb }

/-- The state with the one cycle `i` listed. -/
def State.given (s : State) (i : CycleInput) : State := { s with inputs := [i] }

/-- A cycle in which the device offers `b`. -/
def offer (b : Byte) : CycleInput := { CycleInput.idle with rxValid := true, rxData := b }

/-- A cycle in which the host writes `d` at `off`. -/
def hostWrite (off : BitVec 8) (d : Word) : CycleInput :=
  { CycleInput.idle with busEn := true, busWe := true, busAddr := off, busWdata := d }

/-- A cycle in which the host reads at `off`. -/
def hostRead (off : BitVec 8) : CycleInput := { CycleInput.idle with busEn := true, busAddr := off }

/-- Only the cycle's own book-keeping changes: the input is used up, `bus_rdata` is 0. -/
def onlyTimePasses (s t : State) : Bool :=
  decide (t = { s with inputs := s.inputs.tail, cycle := s.cycle + 1, busRdata := 0 })

/-! ### Well-formedness: the one check, on terms it refuses and at its boundaries (R81) -/

theorem test_wf_refuses_rdRsvd_at_mapped_offset : (Instr.rdRsvd 0x00 0).wf = false := by decide
theorem test_wf_refuses_rdRsvd_at_last_mapped_offset : (Instr.rdRsvd 0x38 0).wf = false := by decide
theorem test_wf_refuses_wrRsvd_at_mapped_offset : (Instr.wrRsvd 0x04 7).wf = false := by decide
theorem test_wf_admits_reserved_offsets :
    (Instr.rdRsvd 0x3C 0).wf = true ∧ (Instr.wrRsvd 0x3D 5).wf = true ∧ (Instr.rdRsvd 0xFC 0).wf = true ∧
    (Instr.wrRsvd 0x37 0).wf = true := by decide
theorem test_config_refuses_empty_and_long_markers :
    { BuildConfig.default with markerReady := [] }.wf = false ∧
    { BuildConfig.default with markerAck := List.replicate 16 0 }.wf = false ∧
    { BuildConfig.default with markerTrigger := List.replicate 15 0 }.wf = true := by decide

/-! ### Decoding: one word of every row, written out from the spec's encoding (R80, R83, R84) -/

theorem test_decode_rdId :
    decodeTableWord 48 0b0_00000000_10001001101010111100110111101111 = some (.rdId 0x89ABCDEF) := by decide
theorem test_decode_rdCtrl :
    decodeTableWord 48 0b0_00000100_10001001101010111100110111101111 = some (.rdCtrl 0x89ABCDEF) := by decide
theorem test_decode_rdStatus :
    decodeTableWord 48 0b0_00001000_10001001101010111100110111101111 = some (.rdStatus 0x89ABCDEF) := by decide
theorem test_decode_rdMode :
    decodeTableWord 48 0b0_00001100_10001001101010111100110111101111 = some (.rdMode 0x89ABCDEF) := by decide
theorem test_decode_rdPayloadLen :
    decodeTableWord 48 0b0_00010000_10001001101010111100110111101111 = some (.rdPayloadLen 0x89ABCDEF) := by decide
theorem test_decode_rdDeadline :
    decodeTableWord 48 0b0_00010100_10001001101010111100110111101111 = some (.rdDeadline 0x89ABCDEF) := by decide
theorem test_decode_rdPmemAddr :
    decodeTableWord 48 0b0_00011000_10001001101010111100110111101111 = some (.rdPmemAddr 0x89ABCDEF) := by decide
theorem test_decode_rdPmemData :
    decodeTableWord 48 0b0_00011100_10001001101010111100110111101111 = some (.rdPmemData 0x89ABCDEF) := by decide
theorem test_decode_rdScanCount :
    decodeTableWord 48 0b0_00100000_10001001101010111100110111101111 = some (.rdScanCount 0x89ABCDEF) := by decide
theorem test_decode_rdTxCount :
    decodeTableWord 48 0b0_00100100_10001001101010111100110111101111 = some (.rdTxCount 0x89ABCDEF) := by decide
theorem test_decode_rdEvents :
    decodeTableWord 48 0b0_00101000_10001001101010111100110111101111 = some (.rdEvents 0x89ABCDEF) := by decide
theorem test_decode_rdIrqEn :
    decodeTableWord 48 0b0_00101100_10001001101010111100110111101111 = some (.rdIrqEn 0x89ABCDEF) := by decide
theorem test_decode_rdPayloadCap :
    decodeTableWord 48 0b0_00110000_10001001101010111100110111101111 = some (.rdPayloadCap 0x89ABCDEF) := by decide
theorem test_decode_rdMarkerInfo :
    decodeTableWord 48 0b0_00110100_10001001101010111100110111101111 = some (.rdMarkerInfo 0x89ABCDEF) := by decide
theorem test_decode_rdStageCycles :
    decodeTableWord 48 0b0_00111000_10001001101010111100110111101111 = some (.rdStageCycles 0x89ABCDEF) := by decide
theorem test_decode_wrId :
    decodeTableWord 48 0b1_00000000_10001001101010111100110111101111 = some (.wrId 0x89ABCDEF) := by decide
theorem test_decode_wrCtrl :
    decodeTableWord 48 0b1_00000100_10001001101010111100110111101111 = some (.wrCtrl 0x89ABCDEF) := by decide
theorem test_decode_wrStatus :
    decodeTableWord 48 0b1_00001000_10001001101010111100110111101111 = some (.wrStatus 0x89ABCDEF) := by decide
theorem test_decode_wrMode :
    decodeTableWord 48 0b1_00001100_10001001101010111100110111101111 = some (.wrMode 0x89ABCDEF) := by decide
theorem test_decode_wrPayloadLen :
    decodeTableWord 48 0b1_00010000_10001001101010111100110111101111 = some (.wrPayloadLen 0x89ABCDEF) := by decide
theorem test_decode_wrDeadline :
    decodeTableWord 48 0b1_00010100_10001001101010111100110111101111 = some (.wrDeadline 0x89ABCDEF) := by decide
theorem test_decode_wrPmemAddr :
    decodeTableWord 48 0b1_00011000_10001001101010111100110111101111 = some (.wrPmemAddr 0x89ABCDEF) := by decide
theorem test_decode_wrPmemData :
    decodeTableWord 48 0b1_00011100_10001001101010111100110111101111 = some (.wrPmemData 0x89ABCDEF) := by decide
theorem test_decode_wrScanCount :
    decodeTableWord 48 0b1_00100000_10001001101010111100110111101111 = some (.wrScanCount 0x89ABCDEF) := by decide
theorem test_decode_wrTxCount :
    decodeTableWord 48 0b1_00100100_10001001101010111100110111101111 = some (.wrTxCount 0x89ABCDEF) := by decide
theorem test_decode_wrEvents :
    decodeTableWord 48 0b1_00101000_10001001101010111100110111101111 = some (.wrEvents 0x89ABCDEF) := by decide
theorem test_decode_wrIrqEn :
    decodeTableWord 48 0b1_00101100_10001001101010111100110111101111 = some (.wrIrqEn 0x89ABCDEF) := by decide
theorem test_decode_wrPayloadCap :
    decodeTableWord 48 0b1_00110000_10001001101010111100110111101111 = some (.wrPayloadCap 0x89ABCDEF) := by decide
theorem test_decode_wrMarkerInfo :
    decodeTableWord 48 0b1_00110100_10001001101010111100110111101111 = some (.wrMarkerInfo 0x89ABCDEF) := by decide
theorem test_decode_wrStageCycles :
    decodeTableWord 48 0b1_00111000_10001001101010111100110111101111 = some (.wrStageCycles 0x89ABCDEF) := by decide
theorem test_decode_rdRsvd :
    decodeTableWord 48 0b0_00111101_10001001101010111100110111101111 = some (.rdRsvd 0x3D 0x89ABCDEF) := by decide
theorem test_decode_wrRsvd :
    decodeTableWord 48 0b1_00111101_10001001101010111100110111101111 = some (.wrRsvd 0x3D 0x89ABCDEF) := by decide
theorem test_decode_stepInit : decodeTableWord 8 0b0000 = some .stepInit := by decide
theorem test_decode_stepAwaitReady : decodeTableWord 8 0b0001 = some .stepAwaitReady := by decide
theorem test_decode_stepAwaitTrigger : decodeTableWord 8 0b0010 = some .stepAwaitTrigger := by decide
theorem test_decode_stepSendLength : decodeTableWord 8 0b0011 = some .stepSendLength := by decide
theorem test_decode_stepAwaitAck : decodeTableWord 8 0b0100 = some .stepAwaitAck := by decide
theorem test_decode_stepSendBody : decodeTableWord 8 0b0101 = some .stepSendBody := by decide
theorem test_decode_stepDone : decodeTableWord 8 0b0110 = some .stepDone := by decide
theorem test_decode_stepError : decodeTableWord 8 0b0111 = some .stepError := by decide
theorem test_decode_stepDrainLength : decodeTableWord 8 0b1011 = some .stepDrainLength := by decide
theorem test_decode_stepDrainBody : decodeTableWord 8 0b1101 = some .stepDrainBody := by decide
theorem test_decode_stepUnreachable1000 : decodeTableWord 8 0b1000 = some .stepUnreachable1000 := by decide
theorem test_decode_stepUnreachable1001 : decodeTableWord 8 0b1001 = some .stepUnreachable1001 := by decide
theorem test_decode_stepUnreachable1010 : decodeTableWord 8 0b1010 = some .stepUnreachable1010 := by decide
theorem test_decode_stepUnreachable1100 : decodeTableWord 8 0b1100 = some .stepUnreachable1100 := by decide
theorem test_decode_stepUnreachable1110 : decodeTableWord 8 0b1110 = some .stepUnreachable1110 := by decide
theorem test_decode_stepUnreachable1111 : decodeTableWord 8 0b1111 = some .stepUnreachable1111 := by decide
theorem test_decode_rejects_padding :
    decodeTableWord 48 0x20000000000 = none ∧ decodeTableWord 8 0x10 = none ∧ decode [] = .reject .badLength := by
  decide

/-! ### One step of each read -/

/-- RA1. -/
theorem test_rdId :
    goesTo (step ((State.reset).given (hostRead 0x00))) (fun t => decide (t.busRdata = 0x52424845)) = true := by decide
/-- RA1. -/
theorem test_rdCtrl :
    goesTo (step ((State.reset).given (hostRead 0x04))) (fun t => decide (t.busRdata = 0)) = true := by decide
/-- TX2. -/
theorem test_rdStatus :
    goesTo (step (({ at_ .error false with lenIdx := 1, errState := .sendLength, errCause := 2 }).given (hostRead 0x08))) (fun t => decide (t.busRdata = 0x00013207)) = true := by decide
/-- SC7. -/
theorem test_rdStatus_scanning :
    goesTo (step ((stageAt .ready 1 [0x78]).given (hostRead 0x08))) (fun t => decide (t.busRdata = 0x19)) = true := by decide
/-- RA2. -/
theorem test_rdMode :
    goesTo (step (({ State.reset with mode := 7 }).given (hostRead 0x0C))) (fun t => decide (t.busRdata = 7)) = true := by decide
/-- P5, R218. -/
theorem test_rdPayloadLen :
    goesTo (step (({ State.reset with payloadLen := 0x1000 }).given (hostRead 0x10))) (fun t => decide (t.busRdata = 0x1000)) = true := by decide
/-- P3, R220. -/
theorem test_rdDeadline :
    goesTo (step (({ State.reset with deadline := 20 }).given (hostRead 0x14))) (fun t => decide (t.busRdata = 20)) = true := by decide
/-- RA3. -/
theorem test_rdPmemAddr :
    goesTo (step (({ State.reset with pmemAddr := 0x101 }).given (hostRead 0x18))) (fun t => decide (t.busRdata = 0x101)) = true := by decide
/-- RA3. -/
theorem test_rdPmemData :
    goesTo (step (({ State.reset with pmemAddr := 255, pmem := [(255, 0xAB)] }).given (hostRead 0x1C))) (fun t => decide (t.busRdata = 0xAB)) = true := by decide
/-- RA3. -/
theorem test_rdPmemData_above_cap :
    goesTo (step (({ State.reset with pmemAddr := 257, pmem := [(255, 0xAB)] }).given (hostRead 0x1C))) (fun t => decide (t.busRdata = 0)) = true := by decide
/-- RA10. -/
theorem test_rdScanCount :
    goesTo (step (({ State.reset with scanCount := 2 }).given (hostRead 0x20))) (fun t => decide (t.busRdata = 2)) = true := by decide
/-- RA10. -/
theorem test_rdTxCount :
    goesTo (step (({ State.reset with txCount := 0x10 }).given (hostRead 0x24))) (fun t => decide (t.busRdata = 0x10)) = true := by decide
/-- P1; reading does not clear (R214). -/
theorem test_rdEvents :
    goesTo (step (({ State.reset with events := 0x1F }).given (hostRead 0x28))) (fun t => decide (t.busRdata = 0x1F)) = true := by decide
/-- RA2. -/
theorem test_rdIrqEn :
    goesTo (step (({ State.reset with irqEn := 0x3F }).given (hostRead 0x2C))) (fun t => decide (t.busRdata = 0x3F)) = true := by decide
/-- RA1. -/
theorem test_rdPayloadCap :
    goesTo (step ((State.reset).given (hostRead 0x30))) (fun t => decide (t.busRdata = 0x100)) = true := by decide
/-- RA1. -/
theorem test_rdMarkerInfo :
    goesTo (step ((State.reset).given (hostRead 0x34))) (fun t => decide (t.busRdata = 0x238)) = true := by decide
/-- RA9. -/
theorem test_rdStageCycles :
    goesTo (step (({ State.reset with stageCycles := 0x14 }).given (hostRead 0x38))) (fun t => decide (t.busRdata = 0x14)) = true := by decide
/-- RA1. -/
theorem test_rdRsvd :
    goesTo (step (({ State.reset with busRdata := 5 }).given (hostRead 0x3C))) (fun t => decide (t.busRdata = 0)) = true := by decide
/-- R214: reading EVENTS leaves it. -/
theorem test_rdEvents_keeps :
    goesTo (step (State.given { State.reset with events := 0x1F } (hostRead 0x28)))
      (fun t => decide (t.events = 0x1F)) = true := by decide

/-! ### One step of each write -/

/-- CT5. -/
theorem test_wrCtrl_start_wins_in_init :
    goesTo (step ((State.reset).given (hostWrite 0x04 7))) (fun t => decide (t.statusWord = 0x09 ∧ t.events = 0)) = true := by decide
/-- CT7. -/
theorem test_wrCtrl_abort_wins_while_active :
    goesTo (step ((at_ .awaitReady false).given (hostWrite 0x04 3))) (fun t => decide (t.statusWord = 0x1407 ∧ t.events = 0x20)) = true := by decide
/-- RA2. -/
theorem test_wrMode :
    goesTo (step ((State.reset).given (hostWrite 0x0C 0xFFFFFFFF))) (fun t => decide (t.mode = 7)) = true := by decide
/-- RA5. -/
theorem test_wrMode_while_active :
    goesTo (step ((at_ .awaitReady false).given (hostWrite 0x0C 7))) (fun t => decide (t.mode = 0)) = true := by decide
/-- R219. -/
theorem test_wrPayloadLen :
    goesTo (step ((State.reset).given (hostWrite 0x10 0xFFFFFFFF))) (fun t => decide (t.payloadLen = 0xFFFFFFFF)) = true := by decide
/-- RA5. -/
theorem test_wrPayloadLen_while_active :
    goesTo (step ((at_ .awaitAck false).given (hostWrite 0x10 5))) (fun t => decide (t.payloadLen = 3)) = true := by decide
/-- P3. -/
theorem test_wrDeadline :
    goesTo (step ((State.reset).given (hostWrite 0x14 20))) (fun t => decide (t.deadline = 20)) = true := by decide
/-- RA5. -/
theorem test_wrDeadline_while_active :
    goesTo (step ((at_ .sendBody false).given (hostWrite 0x14 3))) (fun t => decide (t.deadline = 0)) = true := by decide
/-- RA4. -/
theorem test_wrPmemAddr :
    goesTo (step ((State.reset).given (hostWrite 0x18 0xFFFFFFFF))) (fun t => decide (t.pmemAddr = 0xFFFFFFFF)) = true := by decide
/-- RA5. -/
theorem test_wrPmemAddr_while_active :
    goesTo (step ((at_ .sendLength true).given (hostWrite 0x18 9))) (fun t => decide (t.pmemAddr = 0)) = true := by decide
/-- RA3. -/
theorem test_wrPmemData :
    goesTo (step (({ State.reset with pmemAddr := 255 }).given (hostWrite 0x1C 0x1AB))) (fun t => decide (t.pmem = [(255, 0xAB)] ∧ t.pmemAddr = 256)) = true := by decide
/-- RA4. -/
theorem test_wrPmemData_wraps :
    goesTo (step (({ State.reset with pmemAddr := 0xFFFFFFFF }).given (hostWrite 0x1C 0x11))) (fun t => decide (t.pmem = [] ∧ t.pmemAddr = 0)) = true := by decide
/-- R215. -/
theorem test_wrEvents :
    goesTo (step (({ State.reset with events := 0x3F }).given (hostWrite 0x28 0x21))) (fun t => decide (t.events = 0x1E)) = true := by decide
/-- RA6: the set of the ready match wins over the clear of the same cycle. -/
theorem test_wrEvents_set_wins :
    goesTo (step ((stageAt .ready 0 [0x52, 0x42, 0x49, 0x4E, 0x36, 0x34, 0x0D]).given
      { hostWrite 0x28 0x3F with rxValid := true, rxData := 0x0A })) (fun t => decide (t.events = 0x01)) = true := by
  decide
/-- RA2, in every state (R229). -/
theorem test_wrIrqEn :
    goesTo (step ((at_ .awaitReady false).given (hostWrite 0x2C 0xFFFFFFFF))) (fun t => decide (t.irqEn = 0x3F)) = true := by decide
/-- R230: no effect. -/
theorem test_wrId :
    goesTo (step (State.reset.given (hostWrite 0x00 0xFFFFFFFF))) (onlyTimePasses (State.reset.given (hostWrite 0x00 0xFFFFFFFF))) = true := by
  decide
/-- RA8: no effect. -/
theorem test_wrStatus :
    goesTo (step (State.reset.given (hostWrite 0x08 0xFFFFFFFF))) (onlyTimePasses (State.reset.given (hostWrite 0x08 0xFFFFFFFF))) = true := by
  decide
/-- RA8: no effect. -/
theorem test_wrScanCount :
    goesTo (step (State.reset.given (hostWrite 0x20 0xFFFFFFFF))) (onlyTimePasses (State.reset.given (hostWrite 0x20 0xFFFFFFFF))) = true := by
  decide
/-- RA8: no effect. -/
theorem test_wrTxCount :
    goesTo (step (State.reset.given (hostWrite 0x24 0xFFFFFFFF))) (onlyTimePasses (State.reset.given (hostWrite 0x24 0xFFFFFFFF))) = true := by
  decide
/-- RA8: no effect. -/
theorem test_wrPayloadCap :
    goesTo (step (State.reset.given (hostWrite 0x30 0xFFFFFFFF))) (onlyTimePasses (State.reset.given (hostWrite 0x30 0xFFFFFFFF))) = true := by
  decide
/-- RA8: no effect. -/
theorem test_wrMarkerInfo :
    goesTo (step (State.reset.given (hostWrite 0x34 0xFFFFFFFF))) (onlyTimePasses (State.reset.given (hostWrite 0x34 0xFFFFFFFF))) = true := by
  decide
/-- RA8: no effect. -/
theorem test_wrStageCycles :
    goesTo (step (State.reset.given (hostWrite 0x38 0xFFFFFFFF))) (onlyTimePasses (State.reset.given (hostWrite 0x38 0xFFFFFFFF))) = true := by
  decide
/-- RA8: no effect. -/
theorem test_wrRsvd :
    goesTo (step (State.reset.given (hostWrite 0x0D 0xFFFFFFFF))) (onlyTimePasses (State.reset.given (hostWrite 0x0D 0xFFFFFFFF))) = true := by
  decide

/-! ### One step of each STEP row -/

/-- SC5: the exact match at the eighth byte. -/
theorem test_stepAwaitReady_match :
    goesTo (step ((stageAt .ready 1 [0x52, 0x42, 0x49, 0x4E, 0x36, 0x34, 0x0D]).given (offer 0x0A)))
      (fun t => decide (t.statusWord = 0x0A ∧ t.events = 0x01 ∧ t.scanCount = 0)) = true := by decide
/-- SQ4: a transport error in the cycle of the eighth byte. -/
theorem test_stepAwaitReady_error :
    goesTo (step ((stageAt .ready 0 [0x52, 0x42, 0x49, 0x4E, 0x36, 0x34, 0x0D]).given
        { offer 0x0A with rxErr := true }))
      (fun t => decide (t.statusWord = 0x1107 ∧ t.events = 0x20 ∧ t.scanCount = 7)) = true := by decide
/-- SF1. -/
theorem test_stepAwaitTrigger_match :
    goesTo (step ((stageAt .trigger 0 [0x03, 0x03]).given (offer 0x03)))
      (fun t => decide (t.statusWord = 0x0B ∧ t.scanCount = 3 ∧ t.events = 0x02)) = true := by decide
/-- SF2: the zero fill is never compared. -/
theorem test_stepAwaitTrigger_no_match :
    goesTo (step ((stageAt .trigger 0 [0x03]).given (offer 0x03)))
      (fun t => decide (t.statusWord = 0x0A ∧ t.scanCount = 2)) = true := by decide
/-- SF4. -/
theorem test_stepAwaitAck_exact_match :
    goesTo (step ((stageAt .ack 4 [0x4F]).given (offer 0x4B)))
      (fun t => decide (t.statusWord = 0x0004000D ∧ t.events = 0x08)) = true := by decide
/-- SF5. -/
theorem test_stepAwaitAck_diverges :
    goesTo (step ((stageAt .ack 4 []).given (offer 0x78)))
      (fun t => decide (t.statusWord = 0x0004001C ∧ t.scanCount = 1)) = true := by decide
/-- TX0: the first length byte. -/
theorem test_stepSendLength :
    goesTo (step ((at_ .sendLength false).given { CycleInput.idle with txReady := true }))
      (fun t => decide (t.txTrace = [.byte 0x03] ∧ t.lenIdx = 1 ∧ t.drain = false)) = true := by decide
/-- TX0: the fourth starts the drain. -/
theorem test_stepSendLength_last :
    goesTo (step (State.given { at_ .sendLength false with lenIdx := 3 } { CycleInput.idle with txReady := true }))
      (fun t => decide (t.txTrace = [.byte 0x00] ∧ t.statusWord = 0x0004002B)) = true := by decide
/-- TX0. -/
theorem test_stepDrainLength :
    goesTo (step ((at_ .sendLength true).given { CycleInput.idle with txDrained := true }))
      (fun t => decide (t.txTrace = [.drained] ∧ t.statusWord = 0x0004000C ∧ t.events = 0x04)) = true := by decide
/-- TX3. -/
theorem test_stepDrainLength_error :
    goesTo (step ((at_ .sendLength true).given { CycleInput.idle with txDrained := true, txErr := true }))
      (fun t => decide (t.txTrace = [] ∧ t.statusWord = 0x00043207)) = true := by decide
/-- TX0: the last body byte starts the drain. -/
theorem test_stepSendBody_last :
    goesTo (step (State.given { at_ .sendBody false with txCount := 2 } { CycleInput.idle with txReady := true }))
      (fun t => decide (t.txTrace = [.byte 0xA2] ∧ t.txCount = 3 ∧ t.drain = true)) = true := by decide
/-- TX4. -/
theorem test_stepSendBody_error :
    goesTo (step (State.given { at_ .sendBody false with txCount := 2 }
        { CycleInput.idle with txReady := true, txErr := true }))
      (fun t => decide (t.txTrace = [] ∧ t.txCount = 2 ∧ t.statusWord = 0x00045207)) = true := by decide
/-- TX0. -/
theorem test_stepDrainBody :
    goesTo (step ((at_ .sendBody true).given { CycleInput.idle with txDrained := true }))
      (fun t => decide (t.statusWord = 0x00040006 ∧ t.txTrace = [.drained] ∧ t.events = 0x10)) = true := by decide
/-- R155: the drain waits. -/
theorem test_stepDrainBody_waits :
    goesTo (step (at_ .sendBody true)) (onlyTimePasses (at_ .sendBody true)) = true := by decide
/-- R181. -/
theorem test_stepInit :
    goesTo (step ((at_ .init false).given { offer 1 with txReady := true, txErr := true, rxErr := true }))
      (onlyTimePasses ((at_ .init false).given (offer 1))) = true := by decide
/-- CT9. -/
theorem test_stepDone :
    goesTo (step ((at_ .done false).given { offer 1 with txReady := true, txErr := true, rxErr := true }))
      (onlyTimePasses ((at_ .done false).given (offer 1))) = true := by decide
/-- R186: no second error. -/
theorem test_stepError :
    goesTo (step ((at_ .error false).given { offer 1 with txReady := true, txErr := true, rxErr := true }))
      (onlyTimePasses ((at_ .error false).given (offer 1))) = true := by decide
/-- CT8 for each of the six unreachable selectors. -/
theorem test_unreachable_rows_fault :
    violates (step (at_ .init true)) = true ∧ violates (step (at_ .awaitReady true)) = true ∧
    violates (step (at_ .awaitTrigger true)) = true ∧ violates (step (at_ .awaitAck true)) = true ∧
    violates (step (at_ .done true)) = true ∧ violates (step (at_ .error true)) = true := by decide
/-- The six rows themselves fault. -/
theorem test_unreachable_execs_fault :
    violates (exec .stepUnreachable1000 State.reset) = true ∧ violates (exec .stepUnreachable1001 State.reset) = true ∧
    violates (exec .stepUnreachable1010 State.reset) = true ∧ violates (exec .stepUnreachable1100 State.reset) = true ∧
    violates (exec .stepUnreachable1110 State.reset) = true ∧
    violates (exec .stepUnreachable1111 State.reset) = true := by decide
/-- RS3: reset beats a START of its cycle. -/
theorem test_reset_beats_start :
    goesTo (step ((at_ .init false).given { hostWrite 0x04 1 with rst := true }))
      (fun t => decide (t.statusWord = 0 ∧ t.payloadLen = 0 ∧ t.pmem = [(0, 0xA0), (1, 0xA1), (2, 0xA2)])) = true := by
  decide
/-- RS4: a byte offered to the transport in the cycle of the reset is handed over. -/
theorem test_reset_in_body :
    goesTo (step ((at_ .sendBody false).given { CycleInput.idle with rst := true, txReady := true }))
      (fun t => decide (t.statusWord = 0 ∧ t.txTrace = [.byte 0xA0])) = true := by decide
/-- TX6: a byte handed over in the cycle of an ABORT is not counted. -/
theorem test_abort_in_body :
    goesTo (step (State.given { at_ .sendBody false with txCount := 1 } { hostWrite 0x04 2 with txReady := true }))
      (fun t => decide (t.statusWord = 0x00045407 ∧ t.txCount = 1 ∧ t.txTrace = [.byte 0xA1])) = true := by decide
/-- TR3. -/
theorem test_length_prefix : serLen 0x12345678 = [0x78, 0x56, 0x34, 0x12] ∧ deserLen 0 0 0 1 = 0x01000000 := by decide

/-- The host's way to present a word: START as the first operation after reset, and a STEP word. -/
theorem test_withFetchWord :
    goesTo (step (State.reset.withFetchWord 48 0x10400000001)) (fun t => decide (t.statusWord = 0x09)) = true ∧
    (State.reset.withFetchWord 8 0b1101).r50 = true ∧
    (State.reset.withFetchWord 8 0b1101).stepRow = .stepDrainBody ∧
    (State.withFetchWord { State.reset with payloadLen := 300, txCount := 7 } 8 0b0110).r50 = true := by decide

/-- R188 on R50 items 4 and 5 in DONE: a length that does not fit PMEM, and one that was not sent. -/
theorem test_done_length_faults :
    violates (step { at_ .done false with payloadLen := 257, txCount := 257 }) = true ∧
    violates (step { at_ .done false with payloadLen := 4 }) = true ∧
    goesTo (step { at_ .done false with payloadLen := 256, txCount := 256 }) (fun _ => true) = true := by decide

/-! ### Witnesses: for every statement with hypotheses, states and operands that meet them, clause by clause -/

theorem test_witness_DecodeEncodeRoundTrip :
    (Instr.rdRsvd 0x3C 7).wf = true ∧ (Instr.wrRsvd 0x01 7).wf = true ∧ (Instr.rdId 7).wf = true ∧
    Instr.stepUnreachable1111.wf = true := by decide
/-- Also for the reserved reads and the ignored writes: the first reserved offset, and misaligned ones below it. -/
theorem test_witness_BusOpcodeMap :
    ((0x3C : BitVec 8).extractLsb' 0 2 ≠ 0 ∨ (0x3C : BitVec 8) ≤ 0x3C) ∧
    ((0x3B : BitVec 8).extractLsb' 0 2 ≠ 0 ∨ (0x3C : BitVec 8) ≤ 0x3B) ∧
    ((0x01 : BitVec 8).extractLsb' 0 2 ≠ 0 ∨ (0x3C : BitVec 8) ≤ 0x01) := by decide
theorem test_witness_StepSelectorMap :
    ∀ (dr : Bool), [SessionState.init, .awaitReady, .awaitTrigger, .sendLength, .awaitAck, .sendBody, .done, .error].all
      (fun st => decide ((at_ st dr).drain = dr ∧ (at_ st dr).state = st)) = true := by decide
/-- Both clauses, and marker lengths at the ends of their range. -/
theorem test_witness_MarkerInfoRead :
    State.reset.cfg.wf = true ∧ State.reset.cfg.markerReady = defaultReady ∧
    State.reset.cfg.markerTrigger = defaultTrigger ∧ State.reset.cfg.markerAck = defaultAck ∧
    { BuildConfig.default with markerReady := [0], markerAck := List.replicate 15 1 }.wf = true := by decide
/-- PmemDataRead and PmemDataWrite: the last address that exists and the first that does not. -/
theorem test_witness_PmemData :
    { State.reset with pmemAddr := 255 }.pmemAddr.toNat < State.reset.cfg.payloadCap.toNat ∧
    State.reset.cfg.payloadCap.toNat ≤ { State.reset with pmemAddr := 256 }.pmemAddr.toNat ∧
    (254 : Nat) ≠ { State.reset with pmemAddr := 255 }.pmemAddr.toNat := by decide
/-- ConfigurationWrites, PmemDataWrite, IdleRows: the three idle states, and the five others. -/
theorem test_witness_idle_and_active :
    (at_ .init false).state = .init ∧ (at_ .done false).state = .done ∧ (at_ .error false).state = .error ∧
    [SessionState.awaitReady, .awaitTrigger, .sendLength, .awaitAck, .sendBody].all (fun st =>
      decide ((at_ st false).state ≠ .init ∧ (at_ st false).state ≠ .done ∧ (at_ st false).state ≠ .error)) = true := by decide
/-- EventsWriteOneToClear, IrqEnableWrite, EventSetWinsOverClear: the first and the last bit. -/
theorem test_witness_event_bits : (0 : Nat) < 6 ∧ (5 : Nat) < 6 := by decide
/-- CT1 and CT2: PAYLOAD_LEN at PAYLOAD_CAP and one above. -/
theorem test_witness_StartCommand :
    (1 : Word).getLsbD 0 = true ∧ (7 : Word).getLsbD 0 = true ∧ State.reset.state = .init ∧
    { State.reset with payloadLen := 256 }.payloadLen.toNat ≤ State.reset.cfg.payloadCap.toNat ∧
    State.reset.cfg.payloadCap.toNat < { State.reset with payloadLen := 257 }.payloadLen.toNat ∧
    (at_ .awaitReady false).state ≠ .init ∧ (6 : Word).getLsbD 1 = (7 : Word).getLsbD 1 ∧
    (6 : Word).getLsbD 2 = (7 : Word).getLsbD 2 := by decide
theorem test_witness_AbortCommand :
    (2 : Word).getLsbD 1 = true ∧
    [SessionState.awaitReady, .awaitTrigger, .sendLength, .awaitAck, .sendBody].all (fun st =>
      let s := (stageAt .ready 0 []).given (hostWrite 0x04 2)
      decide ((at_ st false).active = true) &&
        decide (s.active = true ∧ s.legal = true ∧ s.input.rst = false ∧ s.busRow? = some (.wrCtrl 2))) = true ∧
    (at_ .done false).active = false ∧ (0 : Word).getLsbD 0 = (2 : Word).getLsbD 0 ∧
    (0 : Word).getLsbD 2 = (2 : Word).getLsbD 2 := by decide
theorem test_witness_ClearCommand :
    (4 : Word).getLsbD 2 = true ∧ (at_ .done false).state = .done ∧ (at_ .error false).state = .error ∧
    (at_ .init false).state ≠ .done ∧ (at_ .init false).state ≠ .error ∧
    (0 : Word).getLsbD 0 = (4 : Word).getLsbD 0 ∧ (0 : Word).getLsbD 1 = (4 : Word).getLsbD 1 := by decide
/-- CT4 in one write: CLEAR and ABORT in INIT. -/
theorem test_witness_CtrlWithoutCommand :
    ((at_ .init false).state = .init → (6 : Word).getLsbD 0 = false) ∧
    ((at_ .init false).active = true → (6 : Word).getLsbD 1 = false) ∧
    ((at_ .init false).state = .done ∨ (at_ .init false).state = .error → (6 : Word).getLsbD 2 = false) := by decide
/-- Exact and contains mode of the same stage, at the marker's last byte. -/
theorem test_witness_ScannerFunctions :
    Stage.exact (stageAt .ack 4 [0x4F]).mode .ack = true ∧ Stage.exact (stageAt .ack 3 [0x4F]).mode .ack = false ∧
    (stageAt .ack 3 [0x4F]).scanWin.length = (stageAt .ack 3 [0x4F]).cfg.maxMarkerLen ∧
    (Stage.marker (stageAt .ack 3 [0x4F]).cfg .ack).length ≤ (stageAt .ack 3 [0x4F]).cfg.maxMarkerLen ∧
    (stageAt .ack 4 [0x4F]).scanCount.toNat < (Stage.marker (stageAt .ack 4 [0x4F]).cfg .ack).length := by decide
/-- The five clauses; the deadline met exactly, and missed by one. -/
theorem test_witness_AwaitReadyRow :
    let s := (stageAt .ready 0 [0x52, 0x42, 0x49, 0x4E, 0x36, 0x34, 0x0D]).given (offer 0x0A)
    let miss := (stageAt .ready 0 [0x52, 0x42, 0x49, 0x4E, 0x36, 0x34, 0x0D]).given (offer 0x00)
    let late := { s with deadline := 8, stageCycles := 8 }
    let inTime := { s with deadline := 8, stageCycles := 7 }
    let taken (u : State) : State :=
      { u with
        stageCycles := BitVec.ofNat 32 (min (u.stageCycles.toNat + 1) (2 ^ 32 - 1))
        scanCount := BitVec.ofNat 32 (min (u.scanCount.toNat + 1) (2 ^ 32 - 1))
        scanWin := u.scanWin.tail ++ [u.input.rxData]
        diverged := u.nextDiverged .ready u.input.rxData
        scanBuf := u.scanBuf ++ [u.input.rxData] }
    (s.given { offer 0x0A with rxErr := true }).input.rxErr = true ∧
    (late.input.rxErr = false ∧ late.deadline ≠ 0 ∧ late.deadline ≤ late.stageCycles) ∧
    ((inTime.given CycleInput.idle).input.rxErr = false ∧ inTime.stageCycles < inTime.deadline ∧
      (inTime.given CycleInput.idle).input.rxValid = false) ∧
    (miss.input.rxErr = false ∧ miss.deadline = 0 ∧ miss.input.rxValid = true ∧
      (taken miss).scanMatched .ready = false) ∧
    (inTime.input.rxErr = false ∧ inTime.input.rxValid = true ∧ (taken inTime).scanMatched .ready = true) := by decide
/-- The five clauses; the deadline met exactly, and missed by one. -/
theorem test_witness_AwaitTriggerRow :
    let s := (stageAt .trigger 0 [0x03, 0x03]).given (offer 0x03)
    let miss := (stageAt .trigger 0 [0x03, 0x03]).given (offer 0x00)
    let late := { s with deadline := 8, stageCycles := 8 }
    let inTime := { s with deadline := 8, stageCycles := 7 }
    let taken (u : State) : State :=
      { u with
        stageCycles := BitVec.ofNat 32 (min (u.stageCycles.toNat + 1) (2 ^ 32 - 1))
        scanCount := BitVec.ofNat 32 (min (u.scanCount.toNat + 1) (2 ^ 32 - 1))
        scanWin := u.scanWin.tail ++ [u.input.rxData]
        diverged := u.nextDiverged .trigger u.input.rxData
        scanBuf := u.scanBuf ++ [u.input.rxData] }
    (s.given { offer 0x03 with rxErr := true }).input.rxErr = true ∧
    (late.input.rxErr = false ∧ late.deadline ≠ 0 ∧ late.deadline ≤ late.stageCycles) ∧
    ((inTime.given CycleInput.idle).input.rxErr = false ∧ inTime.stageCycles < inTime.deadline ∧
      (inTime.given CycleInput.idle).input.rxValid = false) ∧
    (miss.input.rxErr = false ∧ miss.deadline = 0 ∧ miss.input.rxValid = true ∧
      (taken miss).scanMatched .trigger = false) ∧
    (inTime.input.rxErr = false ∧ inTime.input.rxValid = true ∧ (taken inTime).scanMatched .trigger = true) := by decide
/-- The five clauses; the deadline met exactly, and missed by one. -/
theorem test_witness_AwaitAckRow :
    let s := (stageAt .ack 0 [0x4F]).given (offer 0x4B)
    let miss := (stageAt .ack 0 [0x4F]).given (offer 0x00)
    let late := { s with deadline := 8, stageCycles := 8 }
    let inTime := { s with deadline := 8, stageCycles := 7 }
    let taken (u : State) : State :=
      { u with
        stageCycles := BitVec.ofNat 32 (min (u.stageCycles.toNat + 1) (2 ^ 32 - 1))
        scanCount := BitVec.ofNat 32 (min (u.scanCount.toNat + 1) (2 ^ 32 - 1))
        scanWin := u.scanWin.tail ++ [u.input.rxData]
        diverged := u.nextDiverged .ack u.input.rxData
        scanBuf := u.scanBuf ++ [u.input.rxData] }
    (s.given { offer 0x4B with rxErr := true }).input.rxErr = true ∧
    (late.input.rxErr = false ∧ late.deadline ≠ 0 ∧ late.deadline ≤ late.stageCycles) ∧
    ((inTime.given CycleInput.idle).input.rxErr = false ∧ inTime.stageCycles < inTime.deadline ∧
      (inTime.given CycleInput.idle).input.rxValid = false) ∧
    (miss.input.rxErr = false ∧ miss.deadline = 0 ∧ miss.input.rxValid = true ∧
      (taken miss).scanMatched .ack = false) ∧
    (inTime.input.rxErr = false ∧ inTime.input.rxValid = true ∧ (taken inTime).scanMatched .ack = true) := by decide

/-- Whether all of `sb` satisfies the stage, as a check. -/
def satisfies (g : Stage) (s : State) (sb : List Byte) : Bool :=
  if g.exact s.mode then decide (sb = g.marker s.cfg) else containsRun (g.marker s.cfg) sb

theorem satisfies_exact (g : Stage) (s : State) (sb : List Byte) (h : g.exact s.mode = true) :
    g.satisfied s sb ↔ sb = g.marker s.cfg := by
  simp [Stage.satisfied, h]

theorem satisfies_contains (g : Stage) (s : State) (sb : List Byte) (h : g.exact s.mode = false) :
    g.satisfied s sb ↔ g.marker s.cfg <:+: sb := by
  simp [Stage.satisfied, h]

theorem test_witness_ScannerEqualsReference :
    State.reset.cfg.wf = true ∧ ([0x4F, 0x4B] : List Byte) ≠ [] ∧
    ∀ k, k < ([0x4F, 0x4B] : List Byte).length → ¬ Stage.ack.satisfied State.reset (([0x4F, 0x4B] : List Byte).take k) := by
  refine ⟨by decide, by decide, ?_⟩
  intro k hk
  rw [satisfies_contains _ _ _ (by decide)]
  revert k
  decide
/-- ScannerEqualsReference in exact mode, on the marker itself and on a diverged sequence of its length. -/
theorem test_witness_ScannerEqualsReference_exact :
    let s : State := { State.reset with mode := 4 }
    s.cfg.wf = true ∧ ([0x4F, 0x4B] : List Byte) ≠ [] ∧
    (∀ k, k < ([0x4F, 0x4B] : List Byte).length → ¬ Stage.ack.satisfied s (([0x4F, 0x4B] : List Byte).take k)) ∧
    ∀ k, k < ([0x78, 0x4B] : List Byte).length → ¬ Stage.ack.satisfied s (([0x78, 0x4B] : List Byte).take k) := by
  intro s
  refine ⟨by decide, by decide, ?_, ?_⟩ <;> intro k hk <;> rw [satisfies_exact _ _ _ (by decide)] <;> revert k <;> decide
theorem test_witness_StageLeavesExactlyOnMarker :
    let s := State.given { stageAt .ack 0 [0x4F] with deadline := 8, stageCycles := 7 } (offer 0x4B)
    let miss := (stageAt .ack 0 [0x4F]).given (offer 0x4F)
    (s.legal = true ∧ s.state = Stage.ack.state ∧ s.input.rxErr = false ∧ s.stageCycles < s.deadline ∧
      s.input.rxValid = true ∧ Stage.ack.satisfied s (s.scanBuf ++ [s.input.rxData])) ∧
    (miss.legal = true ∧ miss.state = Stage.ack.state ∧ miss.input.rxErr = false ∧ miss.deadline = 0 ∧
      miss.input.rxValid = true ∧ ¬ Stage.ack.satisfied miss (miss.scanBuf ++ [miss.input.rxData])) := by
  intro s miss
  rw [satisfies_contains _ _ _ (by decide), satisfies_contains _ _ _ (by decide)]
  decide
theorem test_witness_DivergedNeverMatches :
    let s := stageAt .ack 4 [0x78]
    let full := stageAt .ack 4 [0x4F, 0x4B]
    (s.cfg.wf = true ∧ Stage.ack.exact s.mode = true ∧ ([0x4F] : List Byte) ≠ [] ∧ s.diverged = true) ∧
    (full.cfg.wf = true ∧ Stage.ack.exact full.mode = true ∧
      (Stage.ack.marker full.cfg).length ≤ full.scanCount.toNat) := by decide
theorem test_witness_SendLengthRow :
    let s := (at_ .sendLength false).given { CycleInput.idle with txReady := true }
    let last := { s with lenIdx := 3 }
    (s.state = .sendLength ∧ s.drain = false) ∧ (s.given { CycleInput.idle with txErr := true }).input.txErr = true ∧
    ((at_ .sendLength false).input.txErr = false ∧ (at_ .sendLength false).input.txReady = false) ∧
    (s.input.txErr = false ∧ s.input.txReady = true ∧ { s with lenIdx := 2 }.lenIdx ≠ 3) ∧
    (last.input.txErr = false ∧ last.input.txReady = true ∧ last.lenIdx = 3) := by decide
theorem test_witness_DrainLengthRow :
    let s := (at_ .sendLength true).given { CycleInput.idle with txDrained := true }
    (s.state = .sendLength ∧ s.drain = true) ∧ (s.given { CycleInput.idle with txErr := true }).input.txErr = true ∧
    ((at_ .sendLength true).input.txErr = false ∧ (at_ .sendLength true).input.txDrained = false) ∧
    (s.input.txErr = false ∧ s.input.txDrained = true) := by decide
theorem test_witness_SendBodyRow :
    let s := (at_ .sendBody false).given { CycleInput.idle with txReady := true }
    let last := { s with txCount := 2 }
    (s.state = .sendBody ∧ s.drain = false) ∧ (s.given { CycleInput.idle with txErr := true }).input.txErr = true ∧
    ((at_ .sendBody false).input.txErr = false ∧ (at_ .sendBody false).input.txReady = false) ∧
    (s.input.txErr = false ∧ s.input.txReady = true ∧ { s with txCount := 1 }.txCount + 1 ≠ s.payloadLen) ∧
    (last.input.txErr = false ∧ last.input.txReady = true ∧ last.txCount + 1 = last.payloadLen) := by decide
theorem test_witness_DrainBodyRow :
    let s := (at_ .sendBody true).given { CycleInput.idle with txDrained := true }
    (s.state = .sendBody ∧ s.drain = true) ∧ (s.given { CycleInput.idle with txErr := true }).input.txErr = true ∧
    ((at_ .sendBody true).input.txErr = false ∧ (at_ .sendBody true).input.txDrained = false) ∧
    (s.input.txErr = false ∧ s.input.txDrained = true) := by decide
theorem test_witness_IllegalStatesStop :
    (at_ .init true).cfg.wf = true ∧ (at_ .init true).input.rst = false ∧ ¬ (at_ .init true).R50 ∧
    { State.reset with cfg := { BuildConfig.default with markerAck := [] } }.cfg.wf = false := by
  refine ⟨by decide, by decide, ?_, by decide⟩
  intro h
  exact absurd h.1.1 (by decide)
theorem test_witness_PortOutputs :
    ((at_ .sendLength false).state = .sendLength ∧ (at_ .sendLength false).drain = false) ∧
    ((at_ .sendBody false).state = .sendBody ∧ (at_ .sendBody false).drain = false) ∧
    (at_ .sendBody true).txValid = false := by decide
/-- LegalStatesGoOn: an AWAIT state, a SEND state, DONE and reset. -/
theorem test_witness_LegalStatesGoOn :
    (stageAt .ready 0 [0x52]).cfg.wf = true ∧ (stageAt .ready 0 [0x52]).R50 ∧ (at_ .sendBody true).R50 ∧ (at_ .done false).R50 ∧ State.reset.R50 :=
  ⟨by decide, (r50_iff _).1 (by decide), (r50_iff _).1 (by decide), (r50_iff _).1 (by decide), (r50_iff _).1 (by decide)⟩
theorem test_witness_StepRunsTheDecodedRows :
    let s := stageAt .ready 0 [0x52]
    let w := s.given (hostWrite 0x04 1)
    let a := s.given (hostWrite 0x04 2)
    (s.cfg.wf = true ∧ s.R50 ∧ s.input.rst = false ∧ s.input.busEn = false) ∧
    (w.cfg.wf = true ∧ w.R50 ∧ w.input.rst = false ∧ w.input.busEn = true ∧ w.abortsNow = false) ∧
    (a.cfg.wf = true ∧ a.R50 ∧ a.input.rst = false ∧ a.input.busEn = true ∧ a.abortsNow = true) := by
  simp only [← r50_iff]
  decide
theorem test_witness_ResetCycle :
    let s := (at_ .sendBody false).given { CycleInput.idle with rst := true }
    s.cfg.wf = true ∧ s.input.rst = true := by decide
/-- LegalIsKept, TransitionGraph without reset, EventsSteerNothing, PortEventsRecorded. -/
theorem test_witness_steps_from_legal_states :
    let s := stageAt .ready 0 [0x52]
    s.legal = true ∧ goesTo (step s) (fun _ => true) = true ∧ (at_ .sendBody false).legal = true ∧
    goesTo (step (at_ .sendBody false)) (fun _ => true) = true := by decide
theorem test_witness_TransitionGraph_reset :
    let s := (at_ .done false).given { CycleInput.idle with rst := true }
    s.input.rst = true ∧ goesTo (step s) (fun t => decide (t.state = .init)) = true := by decide
theorem test_witness_SessionDataFrozen :
    let s := (stageAt .ready 0 [0x52]).given (hostWrite 0x10 9)
    s.input.rst = false ∧ s.active = true ∧ goesTo (step s) (fun _ => true) = true := by decide
theorem test_witness_ReadsLeaveNoTrace :
    let i := { offer 0x42 with busEn := true, busAddr := 0x08 }
    let s := (stageAt .ready 0 [0x52]).given i
    s.inputs = i :: [] ∧ i.rst = false ∧ i.busEn = true ∧ i.busWe = false ∧ goesTo (step s) (fun _ => true) = true := by decide
theorem test_witness_BusRdataFromStartState :
    let s := stageAt .ready 0 [0x52]
    (goesTo (step (s.given (hostRead 0x20))) (fun t => decide (t.busRdata = 1)) = true ∧
      (s.given (hostRead 0x20)).input.busEn = true ∧ (s.given (hostRead 0x20)).input.busWe = false) ∧
    (goesTo (step s) (fun _ => true) = true ∧ s.input.rst = false ∧ s.input.busEn = false) ∧
    (goesTo (step (s.given (hostWrite 0x20 9))) (fun _ => true) = true ∧
      (s.given (hostWrite 0x20 9)).input.busWe = true) := by decide
theorem test_witness_HostWritesDoNotSteerTheEngine :
    let i := { hostWrite 0x28 0x3F with rxValid := true, rxData := 0x0A }
    let s := (stageAt .ready 0 [0x52, 0x42, 0x49, 0x4E, 0x36, 0x34, 0x0D]).given i
    s.inputs = i :: [] ∧ i.rst = false ∧ i.busEn = true ∧ i.busWe = true ∧ s.active = true ∧ s.abortsNow = false ∧
    goesTo (step s) (fun _ => true) = true := by decide
/-- A ready match in the cycle that clears all six bits, of which bits 0 and 5 are pending. -/
theorem test_witness_EventSetWinsOverClear :
    let i := { hostWrite 0x28 0x3F with rxValid := true, rxData := 0x0A }
    let s : State := { (stageAt .ready 0 [0x52, 0x42, 0x49, 0x4E, 0x36, 0x34, 0x0D]).given i with events := 0x21 }
    s.inputs = i :: [] ∧ i.rst = false ∧ s.busRow? = some (.wrEvents 0x3F) ∧ goesTo (step s) (fun _ => true) = true ∧
    goesTo (step { s with events := 0, inputs := { i with busEn := false } :: [] }) (fun _ => true) = true := by decide
theorem test_witness_ErrorEntrySavesState :
    let s := (stageAt .ready 0 [0x52]).given { offer 0x42 with rxErr := true }
    s.state ≠ .error ∧ goesTo (step s) (fun t => decide (t.state = .error)) = true := by decide
/-- All three errors of a cycle at once, then clause by clause; SQ6 is the second. -/
theorem test_witness_ErrorPriority :
    let s := stageAt .ready 0 [0x52]
    let both := State.given { s with deadline := 1, stageCycles := 1 } { hostWrite 0x04 2 with rxErr := true }
    let late := { s with deadline := 1, stageCycles := 1 }
    (both.abortsNow = true ∧ goesTo (step both) (fun t => decide (t.errCause = 4)) = true) ∧
    (let u := late.given { CycleInput.idle with rxErr := true };
      u.abortsNow = false ∧ u.rxReady = true ∧ u.input.rxErr = true ∧ goesTo (step u) (fun _ => true) = true) ∧
    (let u := (at_ .sendBody false).given { CycleInput.idle with txErr := true };
      u.abortsNow = false ∧ u.sending = true ∧ u.input.txErr = true ∧ goesTo (step u) (fun _ => true) = true) ∧
    (late.abortsNow = false ∧ late.rxReady = true ∧ late.input.rxErr = false ∧ late.deadline ≠ 0 ∧
      late.deadline ≤ late.stageCycles ∧ goesTo (step late) (fun _ => true) = true) ∧
    (let u := { s with deadline := 1 };
      u.abortsNow = false ∧ u.rxReady = true ∧ u.input.rxErr = false ∧ u.stageCycles < u.deadline ∧
        goesTo (step u) (fun _ => true) = true) ∧
    (let u := at_ .sendBody false;
      u.abortsNow = false ∧ u.sending = true ∧ u.input.txErr = false ∧ goesTo (step u) (fun _ => true) = true) := by decide
theorem test_witness_ErrorsDoNotNest :
    let s := (at_ .error false).given (hostWrite 0x04 4)
    s.state = .error ∧ goesTo (step s) (fun t => decide (t.state = .init)) = true ∧
    goesTo (step (at_ .error false)) (fun t => decide (t.state = .error)) = true := by decide
theorem test_witness_DeadlineBoundKept :
    let s := { stageAt .ready 0 [0x52] with deadline := 2, stageCycles := 1 }
    s.deadlineKept ∧ s.rxReady = true ∧ s.deadline ≠ 0 ∧ goesTo (step s) (fun t => decide (t.stageCycles = 2)) = true := by
  refine ⟨fun _ _ => ?_, by decide, by decide, by decide⟩
  decide
theorem test_witness_DeadlineEndsStage :
    let s := { stageAt .ready 0 [0x52] with deadline := 2, stageCycles := 2 }
    s.legal = true ∧ s.state = Stage.ready.state ∧ s.deadline ≠ 0 ∧ s.stageCycles.toNat ≤ s.deadline.toNat ∧
    s.deadline.toNat < s.stageCycles.toNat + 1 := by decide
theorem test_witness_SessionTraceKept :
    let s : State := { at_ .sendBody false with txCount := 1, sessTx := (at_ .sendBody false).wireOrder.take 6 }
    s.legal = true ∧ s.traceAgrees ∧ s.active = true ∧ goesTo (step s) (fun _ => true) = true := by
  refine ⟨by decide, fun _ => ?_, by decide, by decide⟩
  decide
theorem test_witness_FinishedSessionWireOrder :
    let s : State := { (at_ .sendBody true).given { CycleInput.idle with txDrained := true } with
      sessTx := (at_ .sendBody true).wireOrder.take 8 }
    s.legal = true ∧ s.traceAgrees ∧ s.state ≠ .done ∧ goesTo (step s) (fun t => decide (t.state = .done)) = true := by
  refine ⟨by decide, fun _ => ?_, by decide, by decide⟩
  decide
theorem test_witness_AbortedSessionWirePrefix :
    let s : State := { (at_ .sendBody false).given { hostWrite 0x04 2 with txReady := true } with
      txCount := 1, sessTx := (at_ .sendBody false).wireOrder.take 6 }
    s.legal = true ∧ s.traceAgrees ∧ s.active = true ∧
    goesTo (step s) (fun t => decide (t.state = .error ∧ t.sessTx = s.wireOrder.take 7)) = true := by
  refine ⟨by decide, fun _ => ?_, by decide, by decide⟩
  decide
theorem test_witness_DrainIsTheBarrier :
    (let s := (at_ .sendLength true).given { CycleInput.idle with txDrained := true };
      s.state ≠ .awaitAck ∧ goesTo (step s) (fun t => decide (t.state = .awaitAck)) = true) ∧
    (let s := (stageAt .ack 0 [0x4F]).given (offer 0x4B);
      s.state ≠ .sendBody ∧ goesTo (step s) (fun t => decide (t.state = .sendBody)) = true) ∧
    (let s := (at_ .sendBody true).given { CycleInput.idle with txDrained := true };
      s.state ≠ .done ∧ goesTo (step s) (fun t => decide (t.state = .done)) = true) := by decide
theorem test_witness_OfferedByteIsNotLost :
    let s : State := { at_ .sendLength false with inputs := [offer 0x03, offer 0x03] }
    s.rxDuty ∧ s.input.rxValid = true ∧ s.rxReady = false ∧ goesTo (step s) (fun _ => true) = true := by
  refine ⟨fun _ _ => ?_, by decide, by decide, by decide⟩
  decide
/-- LegalIsKept, its second part: in DONE with the length written that is held, and a step into DONE. -/
theorem test_witness_LegalIsKept_done :
    let s := (at_ .done false).given (hostWrite 0x10 3)
    let b := (at_ .sendBody true).given { CycleInput.idle with txDrained := true }
    (s.legal = true ∧ s.state = .done ∧ s.busRow? = some (.wrPayloadLen 3) ∧ s.txCount = 3 ∧
      goesTo (step s) (fun t => t.r50) = true) ∧
    (b.legal = true ∧ b.state ≠ .done ∧ goesTo (step b) (fun t => t.r50 && decide (t.state = .done)) = true) := by decide
/-- LengthMayChangeInDone: another length than the one sent, after which the next cycle faults, and the same length. -/
theorem test_witness_LengthMayChangeInDone :
    let e : State := { at_ .done false with inputs := [hostWrite 0x10 9, CycleInput.idle] }
    let k := State.given (at_ .done false) (hostWrite 0x10 3)
    (e.legal = true ∧ e.R50 ∧ e.state = .done ∧ e.input.rst = false ∧ e.busRow? = some (.wrPayloadLen 9) ∧
      (9 : Word) ≠ e.txCount ∧
      goesTo (step e) (fun t => decide (t.payloadLen = 9 ∧ t.txCount = 3 ∧ t.input.rst = false) && violates (step t))
        = true) ∧
    (k.legal = true ∧ k.R50 ∧ k.busRow? = some (.wrPayloadLen 3) ∧ (3 : Word) = k.txCount) := by
  simp only [← r50_iff]
  decide

end Sys2Proof.Machine
end

section
/-! The port events of a cycle (spec/00_scope.md R12, 10_state.md R46, R47): every step that answers a next state ends
by `State.endCycle` on a state whose records are still those of the start, so what the step adds to them is the start
state's `rxByte?` and `txEvent?`. -/

namespace Sys2Proof.Machine

/-- R41. -/
theorem rxReady_iff (s : State) :
    s.rxReady = true ↔ s.state = .awaitReady ∨ s.state = .awaitTrigger ∨ s.state = .awaitAck := by
  unfold State.rxReady
  cases s.state <;> decide

/-- R46. -/
theorem rxByte?_toList (s : State) :
    s.rxByte?.toList =
      if s.input.rxValid = true ∧ (s.state = .awaitReady ∨ s.state = .awaitTrigger ∨ s.state = .awaitAck)
      then [s.input.rxData] else [] := by
  simp only [State.rxByte?, Bool.and_eq_true, rxReady_iff, apply_ite Option.toList, Option.toList_some,
    Option.toList_none]

/-- R12, R47. -/
theorem txEvent?_toList (s : State) :
    s.txEvent?.toList =
      if s.txValid = true ∧ s.input.txReady = true ∧ s.input.txErr = false then [.byte s.txData]
      else if s.txFlush = true ∧ s.input.txDrained = true ∧ s.input.txErr = false then [.drained] else [] := by
  simp only [State.txEvent?, Bool.and_eq_true, Bool.not_eq_true', and_assoc, apply_ite Option.toList,
    Option.toList_some, Option.toList_none]

/-- R12: the two rows of a cycle leave the records of the ports alone, whether ABORT acts or not. -/
theorem CycleMove.eq_endCycle {s t : State} (h : CycleMove s t) :
    ∃ u, t = s.endCycle u ∧ u.rxTaken = s.rxTaken ∧ u.txTrace = s.txTrace := by
  cases h with
  | abort => exact ⟨_, rfl, rfl, rfl⟩
  | rows m u _ _ hbus hengine =>
    obtain ⟨-, -, -, hbusTx, hbusRx⟩ := hbus.keeps
    obtain ⟨-, -, -, -, -, -, -, -, -, hengineTx, -, hengineRx⟩ := hengine.keeps
    exact ⟨u, rfl, hengineRx.trans hbusRx, hengineTx.trans hbusTx⟩

/-- R12, R283: every completed cycle, a reset included, ends by recording its own port events on the records it began
with. -/
theorem step_eq_endCycle {s t : State} (h : step s = .next t) :
    ∃ u, t = s.endCycle u ∧ u.rxTaken = s.rxTaken ∧ u.txTrace = s.txTrace := by
  obtain ⟨-, ⟨-, hreset⟩ | ⟨-, -, hrows⟩⟩ := step_next h
  · exact ⟨_, hreset, rfl, rfl⟩
  · exact hrows.eq_endCycle

/-- Settles O54: a step ends by `endCycle`, which appends the start state's port events. -/
theorem portEventsRecorded : Obligations.PortEventsRecorded := by
  intro s t h
  obtain ⟨u, rfl, hrx, htx⟩ := step_eq_endCycle h
  rw [endCycle_rxTaken, endCycle_txTrace, hrx, htx, rxByte?_toList, txEvent?_toList]
  exact ⟨rfl, rfl⟩

end Sys2Proof.Machine
end

section
/-! The legal states (spec/10_state.md R50): what `State.R50Core` and `State.legal` say in each kind of state of the
controller, and that each operation on the registers keeps `State.legal`. -/

namespace Sys2Proof.Machine

/-! ### What R50 says in each kind of state -/

theorem active_eq_false_iff (s : State) :
    s.active = false ↔ s.state = .init ∨ s.state = .done ∨ s.state = .error := by
  unfold State.active
  cases s.state <;> decide

theorem active_iff (s : State) : s.active = true ↔ s.state ≠ .init ∧ s.state ≠ .done ∧ s.state ≠ .error := by
  unfold State.active
  cases s.state <;> decide

/-- R50 item 4 in the ACTIVE states and items 6 and 9, where no error is on record: what a session asks of the payload
and the error registers whatever its stage. -/
def State.SessionSound (s : State) : Prop :=
  s.payloadLen.toNat ≤ s.cfg.payloadCap.toNat ∧ s.errCause = 0 ∧ s.errState = .init

theorem errorOk_iff_of_active {s : State} (ha : s.active = true) :
    s.ErrorOk ↔ s.errCause = 0 ∧ s.errState = .init := by
  obtain ⟨-, -, hne⟩ := (active_iff s).1 ha
  simp only [State.ErrorOk, hne, false_iff, not_not, ne_eq, not_false_eq_true, true_implies]
  exact ⟨fun ⟨hc, hi, _⟩ => ⟨hc, hi⟩, fun ⟨hc, hi⟩ => ⟨hc, hi, by simp [hi]⟩⟩

theorem R50Core_idle_iff {s : State} (hi : s.active = false) :
    s.R50Core ↔ s.drain = false ∧ (s.state = .done → s.lenIdx.toNat = 4) ∧ s.lenIdx.toNat ≤ 4 ∧ s.ErrorOk := by
  rw [State.R50Core]
  obtain hs | hs | hs := (active_eq_false_iff s).1 hi <;>
    simp only [State.DrainOk, State.LenIdxOk, State.PayloadFits, State.TxCountOk, State.ScanOk, hi, hs,
      reduceCtorEq] <;>
    grind

theorem R50Core_await_iff {s : State} {g : Stage} (hs : s.state = g.state) :
    s.R50Core ↔ s.SessionSound ∧ s.drain = false ∧ (g = .ack → s.lenIdx.toNat = 4) ∧ s.lenIdx.toNat ≤ 4 ∧
      s.ScanAgrees g := by
  have ha : s.active = true := stage_active hs
  rw [State.R50Core, errorOk_iff_of_active ha, State.SessionSound]
  cases g <;>
    simp only [State.DrainOk, State.LenIdxOk, State.PayloadFits, State.TxCountOk, State.ScanOk, ha, hs, Stage.state,
      reduceCtorEq] <;>
    grind

theorem R50Core_sendLength_iff {s : State} (hs : s.state = .sendLength) :
    s.R50Core ↔ s.SessionSound ∧ (s.drain = false → s.lenIdx.toNat ≤ 3) ∧
      (s.drain = true → s.lenIdx.toNat = 4) := by
  have ha : s.active = true := sending_active (by simp [State.sending, hs])
  rw [State.R50Core, errorOk_iff_of_active ha, State.SessionSound]
  simp only [State.DrainOk, State.LenIdxOk, State.PayloadFits, State.TxCountOk, State.ScanOk, ha, hs, reduceCtorEq]
  grind

theorem R50Core_sendBody_iff {s : State} (hs : s.state = .sendBody) :
    s.R50Core ↔ s.SessionSound ∧ s.lenIdx.toNat = 4 ∧
      (s.drain = false → s.txCount.toNat < s.payloadLen.toNat) ∧
      (s.drain = true → s.txCount = s.payloadLen) := by
  have ha : s.active = true := sending_active (by simp [State.sending, hs])
  rw [State.R50Core, errorOk_iff_of_active ha, State.SessionSound]
  simp only [State.DrainOk, State.LenIdxOk, State.PayloadFits, State.TxCountOk, State.ScanOk, ha, hs, reduceCtorEq]
  grind

/-! ### The legal states, one equation per kind of state -/

/-- What `State.legal` asks in every state of the controller: a build that R6 allows, W bytes in SCAN_WIN, and PMEM in
canonical form below PAYLOAD_CAP. -/
def State.Sound (s : State) : Prop :=
  s.cfg.wf = true ∧ s.scanWin.length = s.cfg.maxMarkerLen ∧ s.pmem.wf = true ∧
    s.pmem.inRange s.cfg.payloadCap.toNat = true

theorem legal_iff_sound (s : State) :
    s.legal = true ↔ s.Sound ∧ s.R50Core ∧ ((s.state ≠ .awaitReady ∧ s.state ≠ .awaitTrigger) ∨ s.lenIdx = 0) ∧
      s.errCause.toNat ≤ 5 := by
  rw [legal_iff, State.Sound]
  constructor
  · rintro ⟨hbuild, hcore, hzero, hwin, hcause, hwf, hrange⟩
    exact ⟨⟨hbuild, hwin, hwf, hrange⟩, hcore, hzero, hcause⟩
  · rintro ⟨⟨hbuild, hwin, hwf, hrange⟩, hcore, hzero, hcause⟩
    exact ⟨hbuild, hcore, hzero, hwin, hcause, hwf, hrange⟩

theorem legal_idle_iff {s : State} (hi : s.active = false) :
    s.legal = true ↔ s.Sound ∧ s.drain = false ∧ (s.state = .done → s.lenIdx.toNat = 4) ∧ s.lenIdx.toNat ≤ 4 ∧
      s.ErrorOk ∧ s.errCause.toNat ≤ 5 := by
  have hs : s.state ≠ .awaitReady ∧ s.state ≠ .awaitTrigger := by
    obtain hs | hs | hs := (active_eq_false_iff s).1 hi <;> simp [hs]
  rw [legal_iff_sound, R50Core_idle_iff hi]
  simp only [hs.1, hs.2, ne_eq, not_false_eq_true, true_and, true_or, and_assoc]

/-- In an AWAIT state LEN_IDX is what a fresh entry of the stage has: 0 before SEND_LENGTH (R132), 4 after it. -/
theorem legal_await_iff {s : State} {g : Stage} (hs : s.state = g.state) :
    s.legal = true ↔ s.Sound ∧ s.SessionSound ∧ s.drain = false ∧ s.lenIdx = lenIdxAt false g.state ∧
      s.ScanAgrees g := by
  rw [legal_iff_sound, R50Core_await_iff hs, State.SessionSound]
  have h4 : s.lenIdx.toNat = 4 ↔ s.lenIdx = 4 := (BitVec.toNat_eq (y := 4#3)).symm
  cases g <;> simp only [hs, Stage.state, lenIdxAt, h4, reduceCtorEq] <;> grind

theorem legal_sendLength_iff {s : State} (hs : s.state = .sendLength) :
    s.legal = true ↔ s.Sound ∧ s.SessionSound ∧ (s.drain = false → s.lenIdx.toNat ≤ 3) ∧
      (s.drain = true → s.lenIdx.toNat = 4) := by
  rw [legal_iff_sound, R50Core_sendLength_iff hs, State.SessionSound]
  simp only [hs]
  grind

theorem legal_sendBody_iff {s : State} (hs : s.state = .sendBody) :
    s.legal = true ↔ s.Sound ∧ s.SessionSound ∧ s.lenIdx.toNat = 4 ∧
      (s.drain = false → s.txCount.toNat < s.payloadLen.toNat) ∧ (s.drain = true → s.txCount = s.payloadLen) := by
  rw [legal_iff_sound, R50Core_sendBody_iff hs, State.SessionSound]
  simp only [hs]
  grind

/-! ### Every operation on the registers keeps the legal states -/

theorem State.Sound.scanEnter {s : State} (h : s.Sound) : s.scanEnter.Sound := by
  obtain ⟨hbuild, -, hwf, hrange⟩ := h
  exact ⟨hbuild, by simp, hwf, hrange⟩

theorem State.Sound.scanAppend {s : State} (h : s.Sound) (g : Stage) (b : Byte) : (s.scanAppend g b).Sound := by
  obtain ⟨hbuild, hwin, hwf, hrange⟩ := h
  obtain ⟨hpos, -, hle⟩ := marker_bounds s.cfg hbuild g
  refine ⟨hbuild, ?_, hwf, hrange⟩
  simp only [scanAppend_scanWin, scanAppend_cfg, List.length_append, List.length_tail, List.length_singleton, hwin]
  omega

theorem State.Sound.pmemStore {s : State} (h : s.Sound) (b : Byte) : (s.pmemStore b).Sound := by
  obtain ⟨hbuild, hwin, hwf, hrange⟩ := h
  exact ⟨hbuild, hwin, pmemStore_wf s b hwf, pmemStore_inRange s b hrange⟩

theorem code_pos_le (c : ErrCause) : c.code ≠ 0 ∧ c.code.toNat ≤ 5 := by
  cases c <;> decide

theorem lenIdx_le_of_R50Core {s : State} (h : s.R50Core) : s.lenIdx.toNat ≤ 4 := by
  obtain ⟨-, ⟨-, -, -, hle⟩, -⟩ := h
  exact hle

/-- R258: an error is taken into a legal state, from any legal state that is not DONE or ERROR. -/
theorem raiseError_legal {s : State} (h : s.legal = true) (hdone : s.state ≠ .done) (herror : s.state ≠ .error)
    (c : ErrCause) : (s.raiseError c).legal = true := by
  obtain ⟨hsound, hcore, -, -⟩ := (legal_iff_sound s).1 h
  have hlen := lenIdx_le_of_R50Core hcore
  obtain ⟨hne, hle⟩ := code_pos_le c
  exact (legal_idle_iff rfl).2 ⟨hsound, rfl, nofun, hlen, ⟨iff_of_true rfl hne, nofun, hdone, herror⟩, hle⟩

/-- INIT as CLEAR and reset leave it: no byte counted, no error on record. -/
theorem legal_of_fresh_init {s : State} (h : s.Sound) (hs : s.state = .init) (hd : s.drain = false)
    (hlen : s.lenIdx = 0) (hcause : s.errCause = 0) (hstate : s.errState = .init) : s.legal = true := by
  have hi : s.active = false := by simp [State.active, SessionState.active, hs]
  refine (legal_idle_iff hi).2 ⟨h, hd, ?_, ?_, ?_, ?_⟩ <;> simp [State.ErrorOk, hs, hlen, hcause, hstate]

/-- R281: reset leads to a legal state from any state whose build and PMEM are. -/
theorem resetRegs_legal {s : State} (h : s.Sound) : s.resetRegs.legal = true := by
  obtain ⟨hbuild, -, hwf, hrange⟩ := h
  exact legal_of_fresh_init ⟨hbuild, by simp, hwf, hrange⟩ rfl rfl rfl rfl rfl

/-- R184. -/
theorem cmdClear_legal {s : State} (h : s.Sound) : s.cmdClear.legal = true := by
  obtain ⟨hbuild, -, hwf, hrange⟩ := h
  exact legal_of_fresh_init ⟨hbuild, by simp, hwf, hrange⟩ rfl rfl rfl rfl rfl

/-- R131, R132, R182: entering a stage on a fresh ScanBuffer. -/
theorem scanEnter_legal {s : State} {g : Stage} (hs : s.state = g.state) (hsound : s.Sound)
    (hsession : s.SessionSound) (hdrain : s.drain = false) (hlen : s.lenIdx = lenIdxAt false g.state) :
    s.scanEnter.legal = true :=
  (legal_await_iff (s := s.scanEnter) hs).2
    ⟨hsound.scanEnter, hsession, hdrain, hlen, scanEnter_agrees s g hsound.1⟩

/-- R182. -/
theorem beginSession_legal {s : State} (h : s.legal = true) (hs : s.state = .init)
    (hfit : ¬ s.cfg.payloadCap < s.payloadLen) : s.beginSession.legal = true := by
  have hi : s.active = false := by simp [State.active, SessionState.active, hs]
  obtain ⟨hsound, -, -, -, ⟨hcause, hstate, -⟩, -⟩ := (legal_idle_iff hi).1 h
  have hcause0 : s.errCause = 0 := by simpa [hs] using hcause
  exact scanEnter_legal (g := .ready) rfl hsound
    ⟨by simpa [BitVec.lt_def] using hfit, hcause0, hstate (by simp [hs])⟩ rfl rfl

/-- R101: a byte that does not complete the marker. -/
theorem scanAppend_legal {s : State} {g : Stage} (h : s.legal = true) (hs : s.state = g.state) (b : Byte)
    (hm : (s.scanAppend g b).scanMatched g = false) : (s.scanAppend g b).legal = true := by
  obtain ⟨hsound, hsession, hdrain, hlen, hagree⟩ := (legal_await_iff hs).1 h
  obtain ⟨hcount, hwin, hdiv⟩ := scanAppend_agrees s g b hsound.1 hagree
  exact (legal_await_iff (s := s.scanAppend g b) hs).2 ⟨hsound.scanAppend g b, hsession, hdrain, hlen,
    hcount, hwin, hdiv, notYetMatched_append s g b hsound.1 hagree (by simp [hm])⟩

/-- R131 to R133, R153: the byte that completes the marker, and the exit of its stage. -/
theorem stageExit_legal {s : State} {g : Stage} (h : s.legal = true) (hs : s.state = g.state) (b : Byte) :
    (((s.scanAppend g b).setEvent g.event).stageExit g).legal = true := by
  obtain ⟨hsound, hsession, hdrain, hlen, -⟩ := (legal_await_iff hs).1 h
  have hsound' : (s.scanAppend g b).Sound := hsound.scanAppend g b
  cases g with
  | ready => exact scanEnter_legal (g := .trigger) rfl hsound' hsession hdrain hlen
  | trigger =>
    have hlen0 : s.lenIdx = 0 := hlen
    have hlen3 : s.lenIdx.toNat ≤ 3 := by simp [hlen0]
    exact (legal_sendLength_iff rfl).2 ⟨hsound', hsession, fun _ => hlen3, nofun⟩
  | ack =>
    have hlen4 : s.lenIdx.toNat = 4 := congrArg BitVec.toNat hlen
    refine (legal_sendBody_iff rfl).2 ⟨hsound', hsession, hlen4, fun hmore => ?_, fun hnone => ?_⟩
    · have hne : s.payloadLen ≠ 0 := of_decide_eq_false hmore
      exact Nat.pos_of_ne_zero fun h0 => hne (BitVec.eq_of_toNat_eq h0)
    · have heq : s.payloadLen = 0 := of_decide_eq_true hnone
      exact heq.symm

/-- R151. -/
theorem lengthByteTaken_legal {s : State} (h : s.legal = true) (hs : s.state = .sendLength) (hd : s.drain = false) :
    s.lengthByteTaken.legal = true := by
  obtain ⟨hsound, hsession, hle, -⟩ := (legal_sendLength_iff hs).1 h
  have hle := hle hd
  have hnext : (s.lenIdx + 1).toNat = s.lenIdx.toNat + 1 := by
    simp only [BitVec.toNat_add, BitVec.ofNat_eq_ofNat, BitVec.toNat_ofNat]
    omega
  have hlast : s.lenIdx = 3 ↔ s.lenIdx.toNat = 3 := BitVec.toNat_eq (y := 3#3)
  refine (legal_sendLength_iff (s := s.lengthByteTaken) hs).2 ⟨hsound, hsession, ?_, ?_⟩ <;>
    simp only [lengthByteTaken_drain, lengthByteTaken_lenIdx, hd, hnext, hlast] <;>
    grind

/-- R152. -/
theorem lengthDrained_legal {s : State} (h : s.legal = true) (hs : s.state = .sendLength) (hd : s.drain = true) :
    s.lengthDrained.legal = true := by
  obtain ⟨hsound, hsession, -, hlen⟩ := (legal_sendLength_iff hs).1 h
  exact scanEnter_legal (g := .ack) rfl hsound hsession rfl (BitVec.eq_of_toNat_eq (hlen hd))

/-- R154. -/
theorem bodyByteTaken_legal {s : State} (h : s.legal = true) (hs : s.state = .sendBody) (hd : s.drain = false) :
    s.bodyByteTaken.legal = true := by
  obtain ⟨hsound, hsession, hlen, hlt, -⟩ := (legal_sendBody_iff hs).1 h
  have hlt := hlt hd
  have hnext : (s.txCount + 1).toNat = s.txCount.toNat + 1 := by
    simp only [BitVec.toNat_add, BitVec.ofNat_eq_ofNat, BitVec.toNat_ofNat]
    omega
  have hlast : s.txCount + 1 = s.payloadLen ↔ s.txCount.toNat + 1 = s.payloadLen.toNat := by
    rw [← hnext, BitVec.toNat_eq]
  refine (legal_sendBody_iff (s := s.bodyByteTaken) hs).2 ⟨hsound, hsession, hlen, ?_, ?_⟩ <;>
    simp only [bodyByteTaken_drain, bodyByteTaken_txCount, bodyByteTaken_payloadLen, hd, hnext] <;>
    grind

/-- R155. -/
theorem bodyDrained_legal {s : State} (h : s.legal = true) (hs : s.state = .sendBody) :
    s.bodyDrained.legal = true := by
  obtain ⟨hsound, ⟨-, hcause, hstate⟩, hlen, -⟩ := (legal_sendBody_iff hs).1 h
  refine (legal_idle_iff rfl).2 ⟨hsound, rfl, fun _ => hlen, hlen.le, ?_, ?_⟩ <;> simp [hcause, hstate, State.ErrorOk]

/-! ### Every move of a cycle keeps the legal states -/

/-- R40: while idle, neither MODE nor PAYLOAD_LEN is tied to the rest of the state (log entry 6 for DONE). -/
theorem configure_legal {s : State} (h : s.legal = true) (hi : s.active = false) (mode : BitVec 3) (len : Word) :
    ({ s with mode := mode, payloadLen := len } : State).legal = true := by
  rw [legal_idle_iff hi] at h
  exact (legal_idle_iff (s := { s with mode := mode, payloadLen := len }) hi).2 h

theorem pmemStore_legal {s : State} (h : s.legal = true) (hi : s.active = false) (b : Byte) :
    (s.pmemStore b).legal = true := by
  obtain ⟨hsound, hrest⟩ := (legal_idle_iff hi).1 h
  exact (legal_idle_iff (s := s.pmemStore b) hi).2 ⟨hsound.pmemStore b, hrest⟩

/-- R180 (1): every BUS row keeps the legal states. -/
theorem BusMove.legal {s t : State} (h : BusMove s t) (hl : s.legal = true) : t.legal = true := by
  cases h with
  | nothing => exact hl
  | rdata v => exact hl
  | start hs hfit => exact beginSession_legal hl hs hfit
  | tooLarge hs => exact raiseError_legal hl (by simp [hs]) (by simp [hs]) _
  | clear => exact cmdClear_legal ((legal_iff_sound s).1 hl).1
  | mode hi v => exact configure_legal hl hi v s.payloadLen
  | payloadLen hi v => exact configure_legal hl hi s.mode v
  | deadline hi v => exact hl
  | pmemAddr hi v => exact hl
  | pmemData hi b => exact pmemStore_legal hl hi b
  | events v => exact hl
  | irqEn v => exact hl

/-- R258: the errors of the engine are raised in ACTIVE states. -/
theorem raiseError_legal_of_active {s : State} (h : s.legal = true) (ha : s.active = true) (c : ErrCause) :
    (s.raiseError c).legal = true := by
  obtain ⟨-, hdone, herror⟩ := (active_iff s).1 ha
  exact raiseError_legal h hdone herror c

/-- R180 (2): in an ACTIVE state the STEP row keeps the legal states. -/
theorem EngineMove.legal {s t u : State} (h : EngineMove s t u) (hl : t.legal = true) (ha : s.active = true)
    (hst : t.state = s.state) (hdr : t.drain = s.drain) : u.legal = true := by
  have hat : t.active = true := by rwa [State.active, hst]
  cases h with
  | idle => exact hl
  | rxError g hs he => exact raiseError_legal_of_active hl hat _
  | deadline g hs he hd => exact raiseError_legal_of_active hl hat _
  | quiet g hs he hd hv => exact hl
  | scan g hs he hd hv hm =>
    exact scanAppend_legal (s := { t with stageCycles := satInc t.stageCycles }) hl (hst.trans hs) _ hm
  | found g hs he hd hv hm =>
    exact stageExit_legal (s := { t with stageCycles := satInc t.stageCycles }) hl (hst.trans hs) _
  | txError hs he => exact raiseError_legal_of_active hl hat _
  | txWait => exact hl
  | lengthByte hs hd => exact lengthByteTaken_legal hl (hst.trans hs) (hdr.trans hd)
  | lengthDrained hs hd => exact lengthDrained_legal hl (hst.trans hs) (hdr.trans hd)
  | bodyByte hs hd => exact bodyByteTaken_legal hl (hst.trans hs) (hdr.trans hd)
  | bodyDrained hs hd => exact bodyDrained_legal hl (hst.trans hs)

/-- In an ACTIVE state a BUS row leaves STATE and DRAIN, and with them the selector, alone. -/
theorem BusMove.selector_of_active {s t : State} (h : BusMove s t) (ha : s.active = true) :
    t.state = s.state ∧ t.drain = s.drain := by
  rw [h.active ha]
  exact ⟨rfl, rfl⟩

@[simp] theorem withRdata_legal (s : State) (v : Word) : (s.withRdata v).legal = s.legal := rfl

@[simp] theorem endCycle_legal (s t : State) : (s.endCycle t).legal = t.legal := rfl

/-- R180: a cycle without reset keeps the legal states. -/
theorem CycleMove.legal {s v : State} (h : CycleMove s v) (hl : s.legal = true) : v.legal = true := by
  rw [← withRdata_legal s 0] at hl
  cases h with
  | abort hab ha =>
    rw [endCycle_legal]
    exact raiseError_legal_of_active hl ha _
  | rows t u hab hp hb he =>
    rw [endCycle_legal]
    have hlt : t.legal = true := hb.legal hl
    cases ha : s.active with
    | false => rwa [he.eq_of_idle ha]
    | true =>
      obtain ⟨hst, hdr⟩ := hb.selector_of_active ha
      exact he.legal hlt ha hst hdr

/-! ### What R50 adds in DONE -/

theorem doneLengthOk_of_active {s : State} (ha : s.active = true) : s.DoneLengthOk := by
  obtain ⟨-, hdone, -⟩ := (active_iff s).1 ha
  exact fun hs => absurd hs hdone

/-- R40: no BUS row leads to DONE. -/
theorem BusMove.from_done {s t : State} (h : BusMove s t) (ht : t.state = .done) : s.state = .done := by
  cases h with
  | start | tooLarge | clear => cases ht
  | _ => exact ht

/-- R155, R158: DONE is entered with the payload length counted, which fits PMEM. -/
theorem EngineMove.doneLengthOk {s t u : State} (h : EngineMove s t u) (hl : t.legal = true) (ha : s.active = true)
    (hst : t.state = s.state) (hdr : t.drain = s.drain) : u.DoneLengthOk := by
  have hat : t.active = true := by rwa [State.active, hst]
  cases h with
  | rxError | deadline | txError | lengthDrained => exact nofun
  | idle | quiet | scan | txWait | lengthByte | bodyByte => exact doneLengthOk_of_active hat
  | found g => cases g <;> exact nofun
  | bodyDrained hs hd =>
    obtain ⟨-, ⟨hfit, -⟩, -, -, hcount⟩ := (legal_sendBody_iff (hst.trans hs)).1 hl
    exact fun _ => ⟨hfit, hcount (hdr.trans hd)⟩

/-- R219: what a BUS row leaves in DONE, unless it writes PAYLOAD_LEN with another value than TX_COUNT. -/
theorem busPhase_doneLengthOk {s t : State} (hp : (s.withRdata 0).busPhase s.busRow? = .next t)
    (hb : BusMove (s.withRdata 0) t) (h : s.DoneLengthOk)
    (hw : s.state = .done → ∀ d, s.busRow? = some (.wrPayloadLen d) → d = s.txCount) : t.DoneLengthOk := by
  intro ht
  have hs : s.state = .done := hb.from_done ht
  obtain ⟨hfit, hcount⟩ := h hs
  obtain ⟨hcfg, htx, hlen⟩ := busPhase_done hp hs ht
  have hkept : t.payloadLen = s.payloadLen := by
    obtain hlen | ⟨d, hrow, hlen⟩ := hlen
    · exact hlen
    · rw [hlen, hw hs d hrow, hcount]
  rw [hkept, hcfg, htx]
  exact ⟨hfit, hcount⟩

theorem CycleMove.doneLengthOk {s v : State} (h : CycleMove s v) (hl : s.legal = true) (hd : s.DoneLengthOk)
    (hw : s.state = .done → ∀ d, s.busRow? = some (.wrPayloadLen d) → d = s.txCount) : v.DoneLengthOk := by
  cases h with
  | abort => exact nofun
  | rows t u hab hp hb he =>
    change u.DoneLengthOk
    rw [← withRdata_legal s 0] at hl
    cases ha : s.active with
    | false => rw [he.eq_of_idle ha]; exact busPhase_doneLengthOk hp hb hd hw
    | true =>
      obtain ⟨hst, hdr⟩ := hb.selector_of_active ha
      exact he.doneLengthOk (hb.legal hl) ha hst hdr

/-- Settles O42: reset leads to a legal state, and every move of a cycle keeps the legal states and, but for the
write that log entry 6 is about, what R50 adds in DONE. -/
theorem legalIsKept : Obligations.LegalIsKept := by
  intro s t hl hstep
  obtain ⟨-, ⟨-, rfl⟩ | ⟨-, ⟨-, hd⟩, hmove⟩⟩ := step_next hstep
  · have hreset : s.resetRegs.legal = true := resetRegs_legal ((legal_iff_sound s).1 hl).1
    exact ⟨hreset, fun _ => R50_of_not_done ((legal_iff_sound s.resetRegs).1 hreset).2.1 nofun⟩
  · have hkept := hmove.legal hl
    obtain ⟨-, hcore, -⟩ := (legal_iff_sound t).1 hkept
    exact ⟨hkept, fun hw => ⟨hcore, hmove.doneLengthOk hl hd hw⟩⟩

/-- Settles O41: `State.reset` is the state that reset makes of it, and not DONE. -/
theorem resetIsLegal : Obligations.ResetIsLegal := by
  have hlegal : State.reset.legal = true := resetRegs_legal (s := State.reset) ⟨by decide, by decide, rfl, rfl⟩
  exact ⟨hlegal, R50_of_not_done ((legal_iff_sound State.reset).1 hlegal).2.1 nofun⟩

end Sys2Proof.Machine
end

section
/-! The cycle and its ports (spec/10_state.md R36, R41, R45): no input stops a state that satisfies R50, `bus_rdata`
comes from the start state, an event raised in the cycle that clears it stays set, and the other output ports. -/

namespace Sys2Proof.Machine

/-! ### Completion -/

/-- R180: from a state that satisfies R50, a cycle without reset is its two rows. -/
theorem step_eq_runRows {s : State} (hw : s.cfg.wf = true) (h : s.R50) (hr : s.input.rst = false) :
    step s = s.runRows := by
  simp [step, cycle, hw, hr, (r50_iff s).2 h]

/-- R280: a cycle with reset completes in any state of a build that R6 allows. -/
theorem step_of_rst {s : State} (hw : s.cfg.wf = true) (hr : s.input.rst = true) :
    step s = .next (s.endCycle (s.resetRegs.withRdata s.rdataPort)) := by
  simp [step, cycle, hw, hr]

/-- Settles O43: a cycle is a reset, which completes, or its two rows, which complete from a state that satisfies R50. -/
theorem legalStatesGoOn : Obligations.LegalStatesGoOn := by
  intro s hw h
  cases hr : s.input.rst with
  | true => exact ⟨_, step_of_rst hw hr⟩
  | false =>
    obtain ⟨t, ht, -⟩ := runRows_cases s h
    exact ⟨t, (step_eq_runRows hw h hr).trans ht⟩

/-! ### `bus_rdata` -/

@[simp] theorem busWe_busWord (we : Bool) (off : BitVec 8) (d : Word) : busWe (busWord we off d) = we := by
  rw [busWe, busWord, BitVec.getLsbD_append, BitVec.getLsbD_append]
  cases we <;> rfl

/-- R66, R70: a read does nothing but put on `bus_rdata` a value that does not depend on what was there. -/
theorem exec_readRow (off : BitVec 8) (d : Word) (s : State) :
    ∃ v, exec (readRow off d) s = .next (s.withRdata v) ∧
      ∀ rd, exec (readRow off d) (s.withRdata rd) = .next (s.withRdata v) := by
  unfold readRow
  split <;> exact ⟨_, rfl, fun _ => rfl⟩

theorem whileIdle_busRdata {s : State} {f : State → State} (hf : (f s).busRdata = s.busRdata) :
    (s.whileIdle f).busRdata = s.busRdata := by
  rw [State.whileIdle, apply_ite State.busRdata, hf, ite_self]

theorem command_busRdata (s : State) (d : Word) : (s.command d).busRdata = s.busRdata := by
  simp only [State.command, State.cmdStart, State.cmdAbort, apply_ite State.busRdata, raiseError_busRdata,
    beginSession_busRdata, cmdClear_busRdata, ite_self]

/-- R45: a write leaves `bus_rdata` as it is: WR_CTRL by its commands, the five configuration writes as they act only
while idle, the other rows without a condition. -/
theorem exec_writeRow_busRdata (off : BitVec 8) (d : Word) (s : State) :
    ∃ t, exec (writeRow off d) s = .next t ∧ t.busRdata = s.busRdata := by
  unfold writeRow
  split
  case h_2 => exact ⟨_, rfl, command_busRdata s d⟩
  case h_4 | h_5 | h_6 | h_7 | h_8 => exact ⟨_, rfl, whileIdle_busRdata rfl⟩
  all_goals exact ⟨_, rfl, rfl⟩

/-- The row of the ports' word is a write row or a read row, as WE says (R80, R83). -/
theorem decodeBus_portWord (i : CycleInput) :
    ∃ off d, decodeBus (portWord i) = if i.busWe then writeRow off d else readRow off d :=
  ⟨_, _, by rw [decodeBus, portWord, busWe_busWord]⟩

/-- R45: `bus_rdata` after the BUS phase. -/
theorem busPhase_busRdata {s t : State} (h : (s.withRdata 0).busPhase s.busRow? = .next t) :
    (s.input.busEn = true → s.input.busWe = false →
      ∃ u, exec (decodeBus (portWord s.input)) s = .next u ∧ t.busRdata = u.busRdata) ∧
    (s.input.busEn = false ∨ s.input.busWe = true → t.busRdata = 0) := by
  obtain ⟨off, d, hrow⟩ := decodeBus_portWord s.input
  unfold State.busPhase State.busRow? at h
  cases hen : s.input.busEn with
  | false =>
    rw [hen] at h
    cases h
    exact ⟨nofun, fun _ => rfl⟩
  | true =>
    rw [hen] at h
    change exec (decodeBus (portWord s.input)) (s.withRdata 0) = .next t at h
    rw [hrow] at h ⊢
    cases hwe : s.input.busWe with
    | true =>
      rw [hwe, if_pos rfl] at h
      obtain ⟨t', ht', hrd⟩ := exec_writeRow_busRdata off d (s.withRdata 0)
      cases h.symm.trans ht'
      exact ⟨fun _ => nofun, fun _ => hrd⟩
    | false =>
      rw [hwe, if_neg Bool.false_ne_true] at h
      obtain ⟨v, hv, hstart⟩ := exec_readRow off d s
      cases h.symm.trans (hstart 0)
      exact ⟨fun _ _ => ⟨_, hv, rfl⟩, by simp⟩

/-- R180: every cycle without reset has a BUS phase, and the engine leaves `bus_rdata` as that phase left it. -/
theorem CycleMove.busRdata_eq {s v : State} (h : CycleMove s v) :
    ∃ t, (s.withRdata 0).busPhase s.busRow? = .next t ∧ v.busRdata = t.busRdata := by
  cases h with
  | abort hab ha =>
    obtain ⟨t, hp, ⟨-, -, rfl⟩ | ⟨hno, -⟩⟩ := busPhase_cases s
    · exact ⟨_, hp, rfl⟩
    · simp [hab] at hno
  | rows t u hab hp hb he =>
    obtain ⟨-, -, -, -, -, -, -, -, hrd, -⟩ := he.keeps
    exact ⟨t, hp, hrd⟩

/-- Settles O12: the BUS phase sets `bus_rdata`, reading the state as it stood at the start of the cycle. -/
theorem busRdataFromStartState : Obligations.BusRdataFromStartState := by
  intro s t hstep hr
  obtain ⟨-, ⟨hrst, -⟩ | ⟨-, -, hmove⟩⟩ := step_next hstep
  · simp [hr] at hrst
  · obtain ⟨m, hp, hrd⟩ := hmove.busRdata_eq
    rw [hrd]
    exact busPhase_busRdata hp

/-! ### Events -/

theorem getLsbD_eventOperand (d : Word) {k : Nat} (hk : k < 6) : (eventOperand d).getLsbD k = d.getLsbD k := by
  simp [eventOperand, hk]

theorem getLsbD_clearEvents_or (ev c m : BitVec 6) {k : Nat} (hk : k < 6) :
    (clearEvents ev c ||| m).getLsbD k = ((ev.getLsbD k && !c.getLsbD k) || m.getLsbD k) := by
  simp [clearEvents, hk]

/-- R180: a cycle whose ABORT does not act, from what its two rows answer. -/
theorem step_of_rows {s t u : State} (hw : s.cfg.wf = true) (h : s.R50) (hr : s.input.rst = false)
    (hab : s.abortsNow = false) (hp : (s.withRdata 0).busPhase s.busRow? = .next t)
    (he : exec s.stepRow t = .next u) : step s = .next (s.endCycle u) := by
  rw [step_eq_runRows hw h hr, State.runRows, hp]
  simp only [andThen, State.enginePhase, hab, Bool.false_eq_true, if_false, he]

theorem input_of_inputs {s : State} {i : CycleInput} {rest : List CycleInput} (h : s.inputs = i :: rest) :
    s.input = i := by
  rw [State.input, h]

theorem sameEnginePorts_of_eq {i j : CycleInput} (h : i = j) : sameEnginePorts i j := by
  subst h
  exact ⟨rfl, rfl, rfl, rfl, rfl, rfl⟩

/-- Settles O47: the STEP row sets the same bits, by `exec_stepRow_uniform`, over what WR_EVENTS left and over EVENTS = 0
without the write. -/
theorem eventSetWinsOverClear : Obligations.EventSetWinsOverClear := by
  intro s t u i rest d hin hrst hrow ht hu k hk
  have hi : s.input = i := input_of_inputs hin
  have hr : s.input.rst = false := by rw [hi, hrst]
  obtain ⟨hw, ⟨hrst', -⟩ | ⟨-, h50, -⟩⟩ := step_next ht
  · simp [hr] at hrst'
  obtain ⟨m, v, hengine⟩ := exec_stepRow_uniform s s i h50.1.1
  have hwrite := step_of_rows hw h50 hr (by rw [State.abortsNow, hrow]) (by rw [hrow]; rfl)
    (hengine (clearEvents s.events (eventOperand d)) s.irqEn 0 s.inputs (sameEnginePorts_of_eq hi))
  have hquiet := step_of_rows (s := { s with events := 0, inputs := { i with busEn := false } :: rest }) hw h50 hrst
    rfl rfl (hengine 0 s.irqEn 0 ({ i with busEn := false } :: rest) ⟨rfl, rfl, rfl, rfl, rfl, rfl⟩)
  cases ht.symm.trans hwrite
  cases hu.symm.trans hquiet
  change (clearEvents s.events (eventOperand d) ||| m).getLsbD k = (_ || (0#6 ||| m).getLsbD k)
  rw [getLsbD_clearEvents_or _ _ _ hk, getLsbD_eventOperand d hk, BitVec.zero_or]

/-! ### Outputs -/

theorem sending_iff (s : State) : s.sending = true ↔ s.state = .sendLength ∨ s.state = .sendBody := by
  unfold State.sending
  cases s.state <;> decide

theorem txValid_iff (s : State) :
    s.txValid = true ↔ (s.state = .sendLength ∨ s.state = .sendBody) ∧ s.drain = false := by
  simp [State.txValid, sending_iff]

theorem txFlush_iff (s : State) :
    s.txFlush = true ↔ (s.state = .sendLength ∨ s.state = .sendBody) ∧ s.drain = true := by
  simp [State.txFlush, sending_iff]

/-- R41: the port carries 0x00 where nothing is offered. -/
theorem txData_of_not_txValid {s : State} (h : s.txValid = false) : s.txData = 0 := by
  cases hd : s.drain with
  | true => exact if_pos hd
  | false =>
    rw [State.txValid, hd] at h
    revert h
    simp only [State.sending, State.txData, hd]
    cases s.state <;> simp

theorem irq_iff (s : State) :
    s.irq = true ↔ ∃ k, k < 6 ∧ s.events.getLsbD k = true ∧ s.irqEn.getLsbD k = true := by
  rw [State.irq, decide_eq_true_iff, ← not_iff_not, not_not]
  constructor
  · rintro h ⟨k, -, hev, hen⟩
    have hbit := congrArg (BitVec.getLsbD · k) h
    simp [hev, hen] at hbit
  · intro h
    refine BitVec.eq_of_getLsbD_eq fun k hk => ?_
    simp only [BitVec.getLsbD_and, BitVec.ofNat_eq_ofNat, BitVec.getLsbD_zero, Bool.and_eq_false_iff]
    by_contra hne
    simp only [not_or, Bool.not_eq_false] at hne
    exact h ⟨k, hk, hne⟩

/-- Settles O37: one equation per port. -/
theorem portOutputs : Obligations.PortOutputs := by
  intro s
  refine ⟨rxReady_iff s, txValid_iff s, ?_, ?_, txData_of_not_txValid, txFlush_iff s, irq_iff s, active_iff s,
    decide_eq_true_iff⟩
  · intro hs hd
    simp [State.txData, hs, hd, lenByte]
  · intro hs hd
    simp [State.txData, hs, hd]

end Sys2Proof.Machine
end

section
/-! The wire of a session (spec/20_memory.md R71): what the TX port offers in a state is the next event of the wire
order after those the counters say were sent, the engine counts an event exactly when it is handed over, and so a
session that breaks off has sent a beginning of the wire order. -/

namespace Sys2Proof.Machine

/-! ### The events of the length bytes and of the body -/

theorem lengthEvents_length (len : Word) : (lengthEvents len).length = 4 := rfl

theorem lengthEvents_getElem? (len : Word) {k : Nat} (hk : k < 4) :
    (lengthEvents len)[k]? = some (.byte (lenByte len k)) := by
  interval_cases k <;> rfl

theorem lengthEvents_take_succ (len : Word) {k : Nat} (hk : k < 4) :
    (lengthEvents len).take (k + 1) = (lengthEvents len).take k ++ [.byte (lenByte len k)] := by
  rw [List.take_add_one, lengthEvents_getElem? len hk, Option.toList_some]

theorem bodyEvents_zero (m : Memory) : bodyEvents m 0 = [] := rfl

theorem bodyEvents_succ (m : Memory) (n : Nat) : bodyEvents m (n + 1) = bodyEvents m n ++ [.byte (memRead m n)] := by
  simp [bodyEvents, List.range_succ]

theorem bodyEvents_prefix (m : Memory) {n k : Nat} (h : n ≤ k) : bodyEvents m n <+: bodyEvents m k := by
  have hrange : (List.range k).take n = List.range n := by rw [List.take_range, Nat.min_eq_left h]
  rw [bodyEvents, ← hrange]
  exact (List.take_prefix n _).map _

/-! ### What the port offers comes next in the wire order -/

/-- R41, R47: the TX event that the state offers, whether or not the transport takes it in this cycle. -/
def State.txOffer (s : State) : List TxEvent :=
  if s.txValid then [.byte s.txData] else if s.txFlush then [.drained] else []

theorem txOffer_of_not_sending {s : State} (h : s.sending = false) : s.txOffer = [] := by
  simp [State.txOffer, State.txValid, State.txFlush, h]

/-- R47: a state offers a byte or waits for a drain, not both. -/
theorem txValid_of_txFlush {s : State} (h : s.txFlush = true) : s.txValid = false := by
  obtain ⟨-, hd⟩ := (txFlush_iff s).1 h
  simp [State.txValid, hd]

theorem txOffer_of_txFlush {s : State} (h : s.txFlush = true) : s.txOffer = [.drained] := by
  simp [State.txOffer, h, txValid_of_txFlush h]

theorem txOffer_sendLength {s : State} (hs : s.state = .sendLength) (hd : s.drain = false) :
    s.txOffer = [.byte (lenByte s.payloadLen s.lenIdx.toNat)] := by
  simp [State.txOffer, State.txValid, State.sending, State.txData, hs, hd]

theorem txOffer_sendBody {s : State} (hs : s.state = .sendBody) (hd : s.drain = false) :
    s.txOffer = [.byte (memRead s.pmem s.txCount.toNat)] := by
  simp [State.txOffer, State.txValid, State.sending, State.txData, hs, hd]

/-- R47, R253: an offer is taken whole or not at all. -/
theorem txEvent?_eq_nil_or_txOffer (s : State) : s.txEvent?.toList = [] ∨ s.txEvent?.toList = s.txOffer := by
  have hone : s.txFlush = true → s.txValid = false := txValid_of_txFlush
  rw [txEvent?_toList, State.txOffer]
  grind

theorem txEvent?_of_not_sending {s : State} (h : s.sending = false) : s.txEvent?.toList = [] := by
  obtain hnone | hoffer := txEvent?_eq_nil_or_txOffer s
  · exact hnone
  · rw [hoffer, txOffer_of_not_sending h]

/-- R47: the transport takes the byte offered. -/
theorem txEvent?_of_txReady {s : State} (hv : s.txValid = true) (hr : s.input.txReady = true)
    (he : s.input.txErr = false) : s.txEvent?.toList = s.txOffer := by
  rw [txEvent?_toList, State.txOffer, if_pos ⟨hv, hr, he⟩, if_pos hv]

/-- R47: the transport reports the drain. -/
theorem txEvent?_of_txDrained {s : State} (hf : s.txFlush = true) (hr : s.input.txDrained = true)
    (he : s.input.txErr = false) : s.txEvent?.toList = s.txOffer := by
  have hv : s.txValid = false := txValid_of_txFlush hf
  simp [txEvent?_toList, State.txOffer, hv, hf, hr, he]

/-- R47: the transport does not take what is offered. -/
theorem txEvent?_of_wait {s : State} (h : (s.drain = false ∧ s.input.txReady = false) ∨
    (s.drain = true ∧ s.input.txDrained = false)) : s.txEvent?.toList = [] := by
  obtain ⟨hd, hr⟩ | ⟨hd, hr⟩ := h <;> simp [State.txEvent?, State.txValid, State.txFlush, hd, hr]

theorem sentSoFar_sendLength {s : State} (hs : s.state = .sendLength) :
    s.sentSoFar = (lengthEvents s.payloadLen).take s.lenIdx.toNat := by
  rw [State.sentSoFar, hs]

theorem sentSoFar_awaitAck {s : State} (hs : s.state = .awaitAck) :
    s.sentSoFar = lengthEvents s.payloadLen ++ [.drained] := by
  rw [State.sentSoFar, hs]

theorem sentSoFar_sendBody {s : State} (hs : s.state = .sendBody) :
    s.sentSoFar = lengthEvents s.payloadLen ++ [.drained] ++ bodyEvents s.pmem s.txCount.toNat := by
  rw [State.sentSoFar, hs]

/-- R151: LEN_IDX + 1 length bytes, when the one offered is taken. -/
theorem sentSoFar_txOffer_lengthByte {s : State} (hl : s.legal = true) (hs : s.state = .sendLength)
    (hd : s.drain = false) :
    s.sentSoFar ++ s.txOffer = (lengthEvents s.payloadLen).take (s.lenIdx.toNat + 1) := by
  obtain ⟨-, -, hle, -⟩ := (legal_sendLength_iff hs).1 hl
  rw [sentSoFar_sendLength hs, txOffer_sendLength hs hd, lengthEvents_take_succ _ (Nat.lt_succ_of_le (hle hd))]

/-- R152: the four length bytes and their drain, when the drain completes. -/
theorem sentSoFar_txOffer_lengthDrained {s : State} (hl : s.legal = true) (hs : s.state = .sendLength)
    (hd : s.drain = true) : s.sentSoFar ++ s.txOffer = lengthEvents s.payloadLen ++ [.drained] := by
  obtain ⟨-, -, -, hfour⟩ := (legal_sendLength_iff hs).1 hl
  rw [sentSoFar_sendLength hs, txOffer_of_txFlush ((txFlush_iff s).2 ⟨.inl hs, hd⟩), hfour hd,
    List.take_of_length_le (lengthEvents_length _).le]

/-- R154: TX_COUNT + 1 body bytes, when the one offered is taken. -/
theorem sentSoFar_txOffer_bodyByte {s : State} (hs : s.state = .sendBody) (hd : s.drain = false) :
    s.sentSoFar ++ s.txOffer =
      lengthEvents s.payloadLen ++ [.drained] ++ bodyEvents s.pmem (s.txCount.toNat + 1) := by
  rw [sentSoFar_sendBody hs, txOffer_sendBody hs hd, bodyEvents_succ, List.append_assoc _ (bodyEvents _ _)]

/-- R155, R157: the whole session, when the drain of the body completes. -/
theorem sentSoFar_txOffer_bodyDrained {s : State} (hl : s.legal = true) (hs : s.state = .sendBody)
    (hd : s.drain = true) : s.sentSoFar ++ s.txOffer = s.wireOrder := by
  obtain ⟨-, -, -, -, hcount⟩ := (legal_sendBody_iff hs).1 hl
  rw [sentSoFar_sendBody hs, txOffer_of_txFlush ((txFlush_iff s).2 ⟨.inr hs, hd⟩), hcount hd, State.wireOrder]

/-! ### The counters follow the wire -/

/-- R41: an AWAIT state offers no TX event. -/
theorem sending_of_stage {s : State} {g : Stage} (hs : s.state = g.state) : s.sending = false := by
  cases g <;> simp [State.sending, hs, Stage.state]

/-- R131 to R133: a match sends nothing: before SEND_LENGTH no length byte is counted, and SEND_BODY starts at body
byte 0. -/
theorem stageExit_sentSoFar {s : State} {g : Stage} (hl : s.legal = true) (hs : s.state = g.state) (b : Byte) :
    (((s.scanAppend g b).setEvent g.event).stageExit g).sentSoFar = s.sentSoFar := by
  cases g with
  | ready => rw [State.sentSoFar, State.sentSoFar, hs]; rfl
  | trigger =>
    obtain ⟨-, -, -, hlen, -⟩ := (legal_await_iff hs).1 hl
    have hzero : s.lenIdx = 0 := hlen
    rw [sentSoFar_sendLength rfl, State.sentSoFar, hs]
    change (lengthEvents s.payloadLen).take s.lenIdx.toNat = []
    rw [hzero]; rfl
  | ack =>
    rw [sentSoFar_sendBody rfl, sentSoFar_awaitAck hs]
    exact List.append_nil _

/-- R151. -/
theorem lengthByteTaken_sentSoFar {s : State} (hl : s.legal = true) (hs : s.state = .sendLength)
    (hd : s.drain = false) : s.lengthByteTaken.sentSoFar = s.sentSoFar ++ s.txOffer := by
  obtain ⟨-, -, hle, -⟩ := (legal_sendLength_iff hs).1 hl
  have hle := hle hd
  have hnext : (s.lenIdx + 1).toNat = s.lenIdx.toNat + 1 :=
    BitVec.toNat_add_of_lt (show s.lenIdx.toNat + 1 < 2 ^ 3 by omega)
  rw [sentSoFar_txOffer_lengthByte hl hs hd, ← hnext]
  exact sentSoFar_sendLength (s := s.lengthByteTaken) hs

/-- R152. -/
theorem lengthDrained_sentSoFar {s : State} (hl : s.legal = true) (hs : s.state = .sendLength)
    (hd : s.drain = true) : s.lengthDrained.sentSoFar = s.sentSoFar ++ s.txOffer := by
  rw [sentSoFar_txOffer_lengthDrained hl hs hd]
  exact sentSoFar_awaitAck rfl

/-- R154. -/
theorem bodyByteTaken_sentSoFar {s : State} (hl : s.legal = true) (hs : s.state = .sendBody)
    (hd : s.drain = false) : s.bodyByteTaken.sentSoFar = s.sentSoFar ++ s.txOffer := by
  obtain ⟨-, -, -, hlt, -⟩ := (legal_sendBody_iff hs).1 hl
  have hnext : (s.txCount + 1).toNat = s.txCount.toNat + 1 :=
    BitVec.toNat_add_of_lt ((Nat.succ_le_of_lt (hlt hd)).trans_lt s.payloadLen.isLt)
  rw [sentSoFar_txOffer_bodyByte hs hd, ← hnext]
  exact sentSoFar_sendBody (s := s.bodyByteTaken) hs

/-- R71: in an ACTIVE state the STEP row moves the counters over exactly the TX event of the cycle, where the session
goes on. -/
theorem EngineMove.sentSoFar {s t u : State} (h : EngineMove s t u) (hl : t.legal = true) (hst : t.state = s.state)
    (hdr : t.drain = s.drain) (ha : s.active = true) (hu : u.active = true) :
    u.sentSoFar = t.sentSoFar ++ t.txEvent?.toList := by
  have await {g : Stage} (hs : s.state = g.state) : t.txEvent?.toList = [] :=
    txEvent?_of_not_sending (sending_of_stage (hst.trans hs))
  cases h with
  | idle hi => simp [hi] at ha
  | rxError | deadline | txError | bodyDrained => cases hu
  | quiet g hs | scan g hs => rw [await hs, List.append_nil]; rfl
  | found g hs =>
    rw [await hs, List.append_nil]
    exact stageExit_sentSoFar (s := { t with stageCycles := satInc t.stageCycles }) hl (hst.trans hs) _
  | txWait hs he hw => rw [txEvent?_of_wait (hdr ▸ hw), List.append_nil]
  | lengthByte hs hd he hr =>
    have hst' := hst.trans hs
    have hd' := hdr.trans hd
    rw [txEvent?_of_txReady ((txValid_iff t).2 ⟨.inl hst', hd'⟩) hr he, lengthByteTaken_sentSoFar hl hst' hd']
  | lengthDrained hs hd he hr =>
    have hst' := hst.trans hs
    have hd' := hdr.trans hd
    rw [txEvent?_of_txDrained ((txFlush_iff t).2 ⟨.inl hst', hd'⟩) hr he, lengthDrained_sentSoFar hl hst' hd']
  | bodyByte hs hd he hr =>
    have hst' := hst.trans hs
    have hd' := hdr.trans hd
    rw [txEvent?_of_txReady ((txValid_iff t).2 ⟨.inr hst', hd'⟩) hr he, bodyByteTaken_sentSoFar hl hst' hd']

/-! ### A cycle of a session -/

/-- A BUS row of an ACTIVE state touches nothing that the wire depends on. -/
theorem BusMove.wire_of_active {s t : State} (h : BusMove s t) (ha : s.active = true) :
    t.sessTx = s.sessTx ∧ t.sentSoFar = s.sentSoFar ∧ t.txEvent? = s.txEvent? := by
  rw [h.active ha]
  exact ⟨rfl, rfl, rfl⟩

/-- R182: of the BUS rows only an accepted START makes an idle state ACTIVE. -/
theorem BusMove.eq_beginSession {s t : State} (h : BusMove s t) (hi : s.active = false) (ht : t.active = true) :
    t = s.beginSession := by
  cases h with
  | start => rfl
  | tooLarge | clear => cases ht
  | _ => exact absurd (hi.symm.trans ht) Bool.false_ne_true

/-- R12: a cycle of a running session adds its TX event to the session's trace, also where it ends the session. -/
theorem CycleMove.sessTx_of_active {s v : State} (h : CycleMove s v) (ha : s.active = true) :
    v.sessTx = s.sessTx ++ s.txEvent?.toList := by
  cases h with
  | abort => rfl
  | rows t u hab hp hb he =>
    obtain ⟨hbus, -⟩ := hb.wire_of_active ha
    obtain ⟨-, -, -, -, -, -, -, -, -, -, hengine, -⟩ := he.keeps
    rw [endCycle_sessTx, hengine, hbus, withRdata_sessTx]

/-- R71: a running session that goes on counts what the cycle put on the wire. -/
theorem CycleMove.sentSoFar_of_active {s v : State} (h : CycleMove s v) (hl : s.legal = true) (ha : s.active = true)
    (hv : v.active = true) : v.sentSoFar = s.sentSoFar ++ s.txEvent?.toList := by
  cases h with
  | abort => cases hv
  | rows t u hab hp hb he =>
    rw [← withRdata_legal s 0] at hl
    obtain ⟨hst, hdr⟩ := hb.selector_of_active ha
    obtain ⟨-, hsent, hevent⟩ := hb.wire_of_active ha
    have hcount := he.sentSoFar (hb.legal hl) hst hdr ha hv
    rw [hsent, hevent] at hcount
    exact hcount

/-- R182: a session that begins has nothing on the wire. -/
theorem CycleMove.traceAgrees_of_idle {s v : State} (h : CycleMove s v) (hi : s.active = false) : v.traceAgrees := by
  intro hv
  cases h with
  | abort hab ha => simp [hi] at ha
  | rows t u hab hp hb he =>
    have hquiet : s.sending = false := Bool.eq_false_of_not_eq_true fun hs => by simp [sending_active hs] at hi
    cases he.eq_of_idle hi
    cases hb.eq_beginSession hi hv
    rw [endCycle_sessTx, txEvent?_of_not_sending hquiet]
    rfl

/-- Settles O55: a running session counts exactly the TX event its cycle records, and one that begins has neither. -/
theorem sessionTraceKept : Obligations.SessionTraceKept := by
  intro s t hl hagree hstep
  obtain ⟨-, ⟨-, rfl⟩ | ⟨-, -, hmove⟩⟩ := step_next hstep
  · exact nofun
  · cases ha : s.active with
    | false => exact hmove.traceAgrees_of_idle ha
    | true =>
      intro ht
      rw [hmove.sessTx_of_active ha, hmove.sentSoFar_of_active hl ha ht, hagree ha]

/-! ### What a session that breaks off has sent -/

/-- R71: in every legal ACTIVE state, what was sent and what is offered next begin the wire order. -/
theorem sentSoFar_txOffer_prefix {s : State} (hl : s.legal = true) (ha : s.active = true) :
    s.sentSoFar ++ s.txOffer <+: s.wireOrder := by
  have hlength : lengthEvents s.payloadLen ++ [.drained] <+: s.wireOrder :=
    (List.prefix_append _ _).trans (List.prefix_append _ _)
  cases hs : s.state with
  | init | done | error => simp [State.active, SessionState.active, hs] at ha
  | awaitReady | awaitTrigger =>
    rw [txOffer_of_not_sending (by rw [State.sending, hs]), State.sentSoFar, hs]
    exact List.nil_prefix
  | awaitAck =>
    rw [txOffer_of_not_sending (by rw [State.sending, hs]), sentSoFar_awaitAck hs, List.append_nil]
    exact hlength
  | sendLength =>
    cases hd : s.drain with
    | false =>
      rw [sentSoFar_txOffer_lengthByte hl hs hd]
      exact (List.take_prefix _ _).trans ((List.prefix_append _ _).trans hlength)
    | true =>
      rw [sentSoFar_txOffer_lengthDrained hl hs hd]
      exact hlength
  | sendBody =>
    cases hd : s.drain with
    | false =>
      obtain ⟨-, -, -, hlt, -⟩ := (legal_sendBody_iff hs).1 hl
      rw [sentSoFar_txOffer_bodyByte hs hd]
      exact ((List.prefix_append_right_inj _).2 (bodyEvents_prefix s.pmem (hlt hd))).trans (List.prefix_append _ _)
    | true =>
      rw [sentSoFar_txOffer_bodyDrained hl hs hd]

/-- R71: and so do what was sent and what the cycle hands over. -/
theorem sentSoFar_txEvent?_prefix {s : State} (hl : s.legal = true) (ha : s.active = true) :
    s.sentSoFar ++ s.txEvent?.toList <+: s.wireOrder := by
  have hoffer := sentSoFar_txOffer_prefix hl ha
  obtain hnone | htaken := txEvent?_eq_nil_or_txOffer s
  · rw [hnone, List.append_nil]
    exact (List.prefix_append _ _).trans hoffer
  · rwa [htaken]

/-- Settles O57: the session's trace ends with the TX event of the cycle, an ABORT's uncounted byte included, and that
is the next event of the wire order. -/
theorem abortedSessionWirePrefix : Obligations.AbortedSessionWirePrefix := by
  intro s t hl hagree hstep ha ht
  obtain ⟨-, ⟨-, rfl⟩ | ⟨-, -, hmove⟩⟩ := step_next hstep
  · cases ht
  · rw [hmove.sessTx_of_active ha, hagree ha]
    exact sentSoFar_txEvent?_prefix hl ha

end Sys2Proof.Machine
end

section
/-! What a session is protected from (spec/20_memory.md R66, R72, R74): the host's reads leave no trace, its writes do
not reach the payload or the configuration, and only a completed drain leads on from a SEND state. -/

namespace Sys2Proof.Machine

/-! ### Reads -/

theorem readRow_ne_wrCtrl (off : BitVec 8) (d data : Word) : readRow off d ≠ .wrCtrl data := by
  unfold readRow
  split <;> nofun

/-- R66, R70: the BUS phase of a cycle with a read writes `bus_rdata` and is no ABORT. -/
theorem busPhase_read {s : State} (hwe : s.input.busWe = false) (hen : s.input.busEn = true) :
    s.abortsNow = false ∧ ∃ v, (s.withRdata 0).busPhase s.busRow? = .next (s.withRdata v) := by
  obtain ⟨off, d, hrow⟩ := decodeBus_portWord s.input
  rw [hwe, if_neg Bool.false_ne_true] at hrow
  have hbus : s.busRow? = some (readRow off d) := by rw [State.busRow?, if_pos hen, hrow]
  obtain ⟨v, -, hstart⟩ := exec_readRow off d s
  refine ⟨?_, v, ?_⟩
  · rw [State.abortsNow, hbus]
    split
    · rename_i data hctrl
      exact absurd (Option.some.inj hctrl) (readRow_ne_wrCtrl off d data)
    · rfl
  · rw [hbus]
    exact hstart 0

/-- Settles O11: a read leaves `bus_rdata` alone, which the STEP row does not read, by `exec_stepRow_uniform`. -/
theorem readsLeaveNoTrace : Obligations.ReadsLeaveNoTrace := by
  intro s t i rest hin hrst hen hwe ht
  have hi : s.input = i := input_of_inputs hin
  have hr : s.input.rst = false := by rw [hi, hrst]
  obtain ⟨hw, ⟨hrst', -⟩ | ⟨-, h50, -⟩⟩ := step_next ht
  · simp [hr] at hrst'
  obtain ⟨hab, rd, hread⟩ := busPhase_read (s := s) (by rw [hi, hwe]) (by rw [hi, hen])
  obtain ⟨m, u, hengine⟩ := exec_stepRow_uniform s s i h50.1.1
  have hcycle := step_of_rows hw h50 hr hab hread
    (hengine s.events s.irqEn rd s.inputs (sameEnginePorts_of_eq hi))
  have hquiet := step_of_rows (s := { s with inputs := { i with busEn := false } :: rest }) hw h50 hrst rfl rfl
    (hengine s.events s.irqEn 0 ({ i with busEn := false } :: rest) ⟨rfl, rfl, rfl, rfl, rfl, rfl⟩)
  cases ht.symm.trans hcycle
  rw [hquiet]
  cases s
  cases hin
  rfl

/-! ### The payload and the configuration -/

/-- R43: no cycle writes the build. -/
theorem step_cfg {s t : State} (h : step s = .next t) : t.cfg = s.cfg := by
  obtain ⟨-, ⟨-, rfl⟩ | ⟨-, -, hmove⟩⟩ := step_next h
  · rfl
  · cases hmove with
    | abort => rfl
    | rows m u hab hp hb he =>
      obtain ⟨hbus, -⟩ := hb.keeps
      obtain ⟨hengine, -⟩ := he.keeps
      exact hengine.trans hbus

/-- R40, R74: while ACTIVE no BUS row writes the payload or the configuration. -/
theorem BusMove.sessionData_of_active {s t : State} (h : BusMove s t) (ha : s.active = true) :
    t.payloadLen = s.payloadLen ∧ t.mode = s.mode ∧ t.deadline = s.deadline ∧ t.pmemAddr = s.pmemAddr ∧
      t.pmem = s.pmem := by
  rw [h.active ha]
  exact ⟨rfl, rfl, rfl, rfl, rfl⟩

/-- R74, R287. -/
theorem CycleMove.sessionData_of_active {s v : State} (h : CycleMove s v) (ha : s.active = true) :
    v.payloadLen = s.payloadLen ∧ v.mode = s.mode ∧ v.deadline = s.deadline ∧ v.pmemAddr = s.pmemAddr ∧
      v.pmem = s.pmem := by
  cases h with
  | abort => exact ⟨rfl, rfl, rfl, rfl, rfl⟩
  | rows t u hab hp hb he =>
    obtain ⟨hlen, hmode, hdeadline, haddr, hpmem⟩ := hb.sessionData_of_active ha
    obtain ⟨-, hmode', hlen', hdeadline', haddr', hpmem', -⟩ := he.keeps
    exact ⟨hlen'.trans hlen, hmode'.trans hmode, hdeadline'.trans hdeadline, haddr'.trans haddr, hpmem'.trans hpmem⟩

/-- Settles O45: while ACTIVE a BUS row writes none of these registers, and no STEP row ever does. -/
theorem sessionDataFrozen : Obligations.SessionDataFrozen := by
  intro s t h
  refine ⟨step_cfg h, fun hr ha => ?_⟩
  obtain ⟨-, ⟨hrst, -⟩ | ⟨-, -, hmove⟩⟩ := step_next h
  · simp [hr] at hrst
  · exact hmove.sessionData_of_active ha

/-! ### The drain -/

/-- What can make `q` the STATE after a cycle that starts in `s`: staying, a command, an error or a reset, a stage's
match, or one of the two drains. -/
inductive StateMove (s : State) (q : SessionState) : Prop
  | stays (hq : q = s.state)
  | command (hq : q = .init ∨ q = .awaitReady ∨ q = .error)
  | found (g : Stage) (hs : s.state = g.state) (hq : q = g.nextState)
  | lengthDrained (hs : s.state = .sendLength) (hd : s.drain = true) (hr : s.input.txDrained = true)
      (hq : q = .awaitAck)
  | bodyDrained (hs : s.state = .sendBody) (hd : s.drain = true) (hr : s.input.txDrained = true) (hq : q = .done)

/-- R212: of the BUS rows only the commands write STATE. -/
theorem BusMove.state_eq {s t : State} (h : BusMove s t) :
    t.state = s.state ∨ t.state = .init ∨ t.state = .awaitReady ∨ t.state = .error := by
  cases h with
  | start | tooLarge | clear => simp
  | _ => exact .inl rfl

/-- A STEP row moves STATE by the drains and matches of the start state. -/
theorem EngineMove.stateMove {s t u : State} (h : EngineMove s t u) (hst : t.state = s.state)
    (hin : t.input = s.input) : StateMove s u.state := by
  cases h with
  | idle | quiet | scan | txWait | lengthByte | bodyByte => exact .stays hst
  | rxError | deadline | txError => exact .command (.inr (.inr rfl))
  | found g hs => exact .found g hs (by cases g <;> rfl)
  | lengthDrained hs hd he hr => exact .lengthDrained hs hd (hin ▸ hr) rfl
  | bodyDrained hs hd he hr => exact .bodyDrained hs hd (hin ▸ hr) rfl

theorem CycleMove.stateMove {s v : State} (h : CycleMove s v) : StateMove s v.state := by
  cases h with
  | abort => exact .command (.inr (.inr rfl))
  | rows t u hab hp hb he =>
    change StateMove s u.state
    cases ha : s.active with
    | false =>
      rw [he.eq_of_idle ha]
      obtain hq | hq := hb.state_eq
      · exact .stays hq
      · exact .command hq
    | true =>
      obtain ⟨hst, -⟩ := hb.selector_of_active ha
      exact he.stateMove hst hb.input

/-- R72: AWAIT_ACK is entered by the drain of the length bytes alone. -/
theorem StateMove.to_awaitAck {s : State} (h : StateMove s .awaitAck) (hs : s.state ≠ .awaitAck) :
    s.state = .sendLength ∧ s.drain = true ∧ s.input.txDrained = true := by
  cases h with
  | stays hq => exact absurd hq.symm hs
  | command hq => simp at hq
  | found g hg hq => cases g <;> cases hq
  | lengthDrained hs hd hr => exact ⟨hs, hd, hr⟩
  | bodyDrained hs hd hr hq => cases hq

/-- R158: SEND_BODY is entered by the acknowledgement's match alone. -/
theorem StateMove.to_sendBody {s : State} (h : StateMove s .sendBody) (hs : s.state ≠ .sendBody) :
    s.state = .awaitAck := by
  cases h with
  | stays hq => exact absurd hq.symm hs
  | command hq => simp at hq
  | found g hg hq =>
    cases g with
    | ready | trigger => cases hq
    | ack => exact hg
  | lengthDrained hs hd hr hq => cases hq
  | bodyDrained hs hd hr hq => cases hq

/-- R72: DONE is entered by the drain of the body alone. -/
theorem StateMove.to_done {s : State} (h : StateMove s .done) (hs : s.state ≠ .done) :
    s.state = .sendBody ∧ s.drain = true ∧ s.input.txDrained = true := by
  cases h with
  | stays hq => exact absurd hq.symm hs
  | command hq => simp at hq
  | found g hg hq => cases g <;> cases hq
  | lengthDrained hs hd hr hq => cases hq
  | bodyDrained hs hd hr => exact ⟨hs, hd, hr⟩

/-- R280, R180: what a step does to STATE, and that a cycle without reset starts from R50. -/
theorem step_stateMove {s t : State} (h : step s = .next t) :
    StateMove s t.state ∧ (t.state ≠ .init → s.R50) := by
  obtain ⟨-, ⟨-, rfl⟩ | ⟨-, h50, hmove⟩⟩ := step_next h
  · exact ⟨.command (.inl rfl), fun hne => absurd rfl hne⟩
  · exact ⟨hmove.stateMove, fun _ => h50⟩

/-- Settles O58: the moves of STATE say where each of the three is entered from, and R50 what was sent when DRAIN
is 1. -/
theorem drainIsTheBarrier : Obligations.DrainIsTheBarrier := by
  intro s t h
  obtain ⟨hmove, h50⟩ := step_stateMove h
  refine ⟨fun hs ht => ?_, fun hs ht => ?_, fun hs ht => ?_⟩ <;> rw [ht] at hmove
  · obtain ⟨hfrom, hd, hr⟩ := hmove.to_awaitAck hs
    obtain ⟨⟨-, ⟨-, hlen, -⟩, -⟩, -⟩ := h50 (by simp [ht])
    exact ⟨hfrom, (txFlush_iff s).2 ⟨.inl hfrom, hd⟩, hr, BitVec.eq_of_toNat_eq (hlen hfrom hd)⟩
  · exact hmove.to_sendBody hs
  · obtain ⟨hfrom, hd, hr⟩ := hmove.to_done hs
    obtain ⟨⟨-, -, -, ⟨-, hcount⟩, -⟩, -⟩ := h50 (by simp [ht])
    exact ⟨hfrom, (txFlush_iff s).2 ⟨.inr hfrom, hd⟩, hr, hcount hfrom hd⟩

end Sys2Proof.Machine
end

section
/-! The two encodings (spec/30_encoding.md R80, R81, R83, R84): the fields of a BUS word make it up, WE and OFF select its
row by R83 and R81, the byte layout (log entry 9) is read back as it was written, and with it every operation. -/

namespace Sys2Proof.Machine

/-! ### The fields of a BUS word -/

@[simp] theorem busOff_busWord (we : Bool) (off : BitVec 8) (d : Word) : busOff (busWord we off d) = off := by
  apply BitVec.eq_of_getLsbD_eq
  intro k hk
  simp only [busOff, busWord, BitVec.getLsbD_extractLsb', BitVec.getLsbD_append]
  simp [hk]

@[simp] theorem busData_busWord (we : Bool) (off : BitVec 8) (d : Word) : busData (busWord we off d) = d := by
  apply BitVec.eq_of_getLsbD_eq
  intro k hk
  simp only [busData, busWord, BitVec.getLsbD_extractLsb', BitVec.getLsbD_append]
  simp [hk]

/-- R80: a BUS word is its three fields. -/
theorem busWord_fields (t : BitVec 41) : busWord (busWe t) (busOff t) (busData t) = t := by
  apply BitVec.eq_of_getLsbD_eq
  intro k hk
  simp only [busWord, busWe, busOff, busData, BitVec.getLsbD_append, BitVec.getLsbD_extractLsb']
  by_cases hdata : k < 32
  · simp [hdata]
  · by_cases hoff : k - 32 < 8
    · have : 32 + (k - 32) = k := by omega
      simp [hdata, hoff, this]
    · have : k = 40 := by omega
      simp [this]

/-- R81: WE chooses the direction and OFF the row, which carries DATA. -/
theorem decodeBus_busWord (we : Bool) (off : BitVec 8) (d : Word) :
    decodeBus (busWord we off d) = if we then writeRow off d else readRow off d := by
  rw [decodeBus, busWe_busWord, busOff_busWord, busData_busWord]

/-! ### The row of each offset -/

theorem offsetReserved_iff (off : BitVec 8) :
    offsetReserved off = true ↔ off.toNat % 4 ≠ 0 ∨ 0x3C ≤ off.toNat := by
  simp [offsetReserved]

/-- R81, as it is written over the bits of OFF. -/
theorem offsetReserved_iff_bits (off : BitVec 8) :
    offsetReserved off = true ↔ off.extractLsb' 0 2 ≠ 0 ∨ 0x3C ≤ off := by
  rw [offsetReserved_iff, BitVec.le_def, Ne, Ne, ← BitVec.toNat_inj, BitVec.extractLsb'_toNat]
  rfl

theorem readRow_of_reserved {off : BitVec 8} (d : Word) (h : offsetReserved off = true) :
    readRow off d = .rdRsvd off d := by
  rw [offsetReserved_iff] at h
  unfold readRow
  split
  case h_16 => rfl
  all_goals omega

theorem writeRow_of_reserved {off : BitVec 8} (d : Word) (h : offsetReserved off = true) :
    writeRow off d = .wrRsvd off d := by
  rw [offsetReserved_iff] at h
  unfold writeRow
  split
  case h_16 => rfl
  all_goals omega

/-- R81, R83: an offset that is not reserved is one of the fifteen multiples of 4 below 0x3C. -/
theorem offset_reserved_or_mapped (off : BitVec 8) :
    offsetReserved off = true ∨ ∃ k < 15, off = BitVec.ofNat 8 (4 * k) := by
  rw [offsetReserved_iff]
  by_cases h : off.toNat % 4 ≠ 0 ∨ 0x3C ≤ off.toNat
  · exact .inl h
  · have hoff : off.toNat = 4 * (off.toNat / 4) ∧ off.toNat / 4 < 15 := by omega
    exact .inr ⟨off.toNat / 4, hoff.2, by rw [← hoff.1, BitVec.ofNat_toNat, BitVec.setWidth_eq]⟩

theorem readRow_wf_encodeWord (off : BitVec 8) (d : Word) :
    (readRow off d).wf = true ∧ encodeWord (readRow off d) = .bus (busWord false off d) := by
  obtain hres | ⟨k, hk, rfl⟩ := offset_reserved_or_mapped off
  · rw [readRow_of_reserved d hres]
    exact ⟨hres, rfl⟩
  · interval_cases k <;> exact ⟨rfl, rfl⟩

theorem writeRow_wf_encodeWord (off : BitVec 8) (d : Word) :
    (writeRow off d).wf = true ∧ encodeWord (writeRow off d) = .bus (busWord true off d) := by
  obtain hres | ⟨k, hk, rfl⟩ := offset_reserved_or_mapped off
  · rw [writeRow_of_reserved d hres]
    exact ⟨hres, rfl⟩
  · interval_cases k <;> exact ⟨rfl, rfl⟩

/-- R84: the sixteen selectors. -/
theorem decodeStep_wf_encodeWord :
    ∀ w : BitVec 4, (decodeStep w).wf = true ∧ encodeWord (decodeStep w) = .step w := by decide

/-- Settles O2: a BUS word is its three fields, and the row of its direction and offset gives them back. -/
theorem everyWordIsOneRow : Obligations.EveryWordIsOneRow := by
  refine ⟨fun t => ?_, decodeStep_wf_encodeWord⟩
  rw [← busWord_fields t, decodeBus_busWord]
  cases busWe t with
  | false => exact readRow_wf_encodeWord _ _
  | true => exact writeRow_wf_encodeWord _ _

/-- Settles O3: a mapped offset selects its row by evaluation, a reserved one by R81. -/
theorem busOpcodeMap : Obligations.BusOpcodeMap := by
  constructor
  · intro d
    and_intros <;> exact decodeBus_busWord _ _ d
  · intro off d hbits
    have hres := (offsetReserved_iff_bits off).2 hbits
    exact ⟨(decodeBus_busWord false off d).trans (readRow_of_reserved d hres),
      (decodeBus_busWord true off d).trans (writeRow_of_reserved d hres)⟩

/-! ### The STEP row of a state -/

theorem stepRow_eq {s : State} {d : Bool} {st : SessionState} (hd : s.drain = d) (hs : s.state = st) :
    s.stepRow = decodeStep (BitVec.ofBool d ++ st.code) := by
  rw [State.stepRow, State.selector, hd, hs]

/-- Settles O4: DRAIN and STATE make the selector, whose row is then found by evaluation. -/
theorem stepSelectorMap : Obligations.StepSelectorMap := by
  intro s
  and_intros <;> exact stepRow_eq

/-! ### The bytes of a word -/

/-- The operation of a word of either format. -/
def decodeWord : OpWord → Instr
  | .bus t => decodeBus t
  | .step w => decodeStep w

/-- The low byte of a number under the bits above it, as `bytesOfNat` cuts it off. -/
theorem ofNat_div_append_ofNat (m n : Nat) :
    BitVec.ofNat m (n / 256) ++ BitVec.ofNat 8 n = BitVec.ofNat (m + 8) n := by
  apply BitVec.eq_of_getLsbD_eq
  intro k hk
  have hdiv : (n / 256).testBit (k - 8) = n.testBit (k - 8 + 8) := Nat.testBit_div_two_pow (n := 8) n (k - 8)
  rw [BitVec.getLsbD_append, BitVec.getLsbD_ofNat, BitVec.getLsbD_ofNat, BitVec.getLsbD_ofNat, hdiv]
  by_cases hlow : k < 8
  · simp [hlow, hk]
  · have hsplit : k - 8 + 8 = k ∧ k - 8 < m := by omega
    simp [hlow, hk, hsplit]

theorem decode_bytesOfNat_one (w : BitVec 4) : decode (bytesOfNat 1 w.toNat) = .instr (decodeStep w) := by
  have hlt : (BitVec.ofNat 8 w.toNat).toNat < 2 ^ 4 := by simp; omega
  simp only [bytesOfNat, decode, if_pos hlt]
  simp

theorem decode_bytesOfNat_six (t : BitVec 41) : decode (bytesOfNat 6 t.toNat) = .instr (decodeBus t) := by
  have hlt : (BitVec.ofNat 48 t.toNat).toNat < 2 ^ 41 := by simp; omega
  simp only [bytesOfNat, decode, ofNat_div_append_ofNat, Nat.reduceAdd, if_pos hlt]
  simp

/-- Log entry 9: the bytes of a word are read back as its row. -/
theorem decode_bytes (w : OpWord) : decode w.bytes = .instr (decodeWord w) := by
  cases w with
  | bus t => exact decode_bytesOfNat_six t
  | step w => exact decode_bytesOfNat_one w

/-- The word of a well-formed row selects it: a reserved row by its offset, the others by evaluation. -/
theorem decodeWord_encodeWord {i : Instr} (h : i.wf = true) : decodeWord (encodeWord i) = i := by
  cases i with
  | rdRsvd off d => exact (decodeBus_busWord false off d).trans (readRow_of_reserved d h)
  | wrRsvd off d => exact (decodeBus_busWord true off d).trans (writeRow_of_reserved d h)
  | stepInit | stepAwaitReady | stepAwaitTrigger | stepSendLength | stepAwaitAck | stepSendBody | stepDone | stepError
  | stepDrainLength | stepDrainBody | stepUnreachable1000 | stepUnreachable1001 | stepUnreachable1010
  | stepUnreachable1100 | stepUnreachable1110 | stepUnreachable1111 => rfl
  | _ => exact decodeBus_busWord _ _ _

/-- Settles O1: the bytes give back the word, and the word its row. -/
theorem decodeEncodeRoundTrip : Obligations.DecodeEncodeRoundTrip := by
  intro i h
  rw [encode, decode_bytes, decodeWord_encodeWord h]

/-! ### Words as the opcode table numbers them -/

theorem decodeTableWord_bus (t : BitVec 41) : decodeTableWord 48 t.toNat = some (decodeBus t) := by
  have hlt : t.toNat < 256 ^ 6 := by omega
  simp only [decodeTableWord, Nat.reduceLeDiff, if_false, if_pos hlt, decode_bytesOfNat_six]

theorem decodeTableWord_step (w : BitVec 4) : decodeTableWord 8 w.toNat = some (decodeStep w) := by
  have hlt : w.toNat < 256 ^ 1 := by omega
  simp only [decodeTableWord, le_refl, if_true, if_pos hlt, decode_bytesOfNat_one]

/-- Settles O5: each word is that of the operation it stands for. -/
theorem specWordsDecode : Obligations.SpecWordsDecode :=
  ⟨decodeTableWord_bus (busWord true 0x04 1), decodeTableWord_bus (busWord false 0x08 0),
    decodeTableWord_bus (busWord true 0x10 16), decodeTableWord_bus (busWord true 0x3D 5),
    decodeTableWord_bus (busWord true 0x28 0x21), decodeTableWord_step 0b1011, decodeTableWord_step 0b0100⟩

end Sys2Proof.Machine
end

section
/-! The scanner (spec/41_scanner.md R100 to R109): its match tests position by position, the registers after any number
of bytes, the AWAIT row of a cycle that consumes a byte, and that EVENTS and IRQ_EN steer nothing. -/

namespace Sys2Proof.Machine

/-! ### The functions on the registers -/

theorem differsAt_iff (m : List Byte) (i : Nat) (b : Byte) :
    differsAt m i b = true ↔ ∃ h : i < m.length, b ≠ m[i] := by
  unfold differsAt
  by_cases h : i < m.length
  · simp [h]
  · rw [List.getElem?_eq_none (Nat.le_of_not_lt h)]
    simp [h]

/-- R101, exact mode. -/
theorem nextDiverged_exact {s : State} {g : Stage} (h : g.exact s.mode = true) (b : Byte) :
    s.nextDiverged g b = (s.diverged || differsAt (g.marker s.cfg) s.scanCount.toNat b) := if_pos h

/-- R101, contains mode. -/
theorem nextDiverged_contains {s : State} {g : Stage} (h : g.exact s.mode = false) (b : Byte) :
    s.nextDiverged g b = false := if_neg (by simp [h])

/-- R103: the exact test on the registers. -/
theorem scanMatched_exact_iff {t : State} {g : Stage} (h : g.exact t.mode = true) :
    t.scanMatched g = true ↔ t.diverged = false ∧ t.scanCount.toNat = (g.marker t.cfg).length := by
  rw [scanMatched_exact t g h, exactMatch, Bool.and_eq_true, Bool.not_eq_true', decide_eq_true_iff]

/-- R102: the last M bytes of a window are the marker when they agree with it position by position. -/
theorem drop_eq_marker_iff {win m : List Byte} (h : m.length ≤ win.length) :
    win.drop (win.length - m.length) = m ↔
      ∀ j, j < m.length → win[win.length - m.length + j]? = m[j]? := by
  rw [List.ext_getElem?_iff]
  refine forall_congr' fun j => ?_
  rw [List.getElem?_drop]
  refine ⟨fun hj _ => hj, fun hj => ?_⟩
  by_cases hlt : j < m.length
  · exact hj hlt
  · rw [List.getElem?_eq_none (by omega), List.getElem?_eq_none (by omega)]

/-- Settles O22: the two forms of DIVERGED and of the match test, taken position by position. -/
theorem scannerFunctions : Obligations.ScannerFunctions := by
  refine ⟨fun _ => rfl, fun s g b => ⟨fun h => nextDiverged_contains h b, fun h => ?_⟩,
    fun t g h => scanMatched_exact_iff h, fun t g h hwin hle => ?_⟩
  · rw [nextDiverged_exact h, Bool.or_eq_true, differsAt_iff]
  · rw [scanMatched_contains t g (by simp [h]), containsMatch, Bool.and_eq_true, decide_eq_true_iff,
      decide_eq_true_iff, drop_eq_marker_iff (by rwa [hwin]), hwin]

/-! ### Any number of bytes -/

/-- R101: the bytes consumed one after the other. -/
def State.scanAll (s : State) (g : Stage) (bytes : List Byte) : State :=
  bytes.foldl (fun t b => t.scanAppend g b) s

@[simp] theorem scanAll_nil (s : State) (g : Stage) : s.scanAll g [] = s := rfl

@[simp] theorem scanAll_cons (s : State) (g : Stage) (b : Byte) (rest : List Byte) :
    s.scanAll g (b :: rest) = (s.scanAppend g b).scanAll g rest := rfl

theorem scanAll_concat (s : State) (g : Stage) (bytes : List Byte) (b : Byte) :
    s.scanAll g (bytes ++ [b]) = (s.scanAll g bytes).scanAppend g b := List.foldl_concat ..

@[simp] theorem scanAll_cfg (s : State) (g : Stage) (bytes : List Byte) : (s.scanAll g bytes).cfg = s.cfg := by
  induction bytes generalizing s with
  | nil => rfl
  | cons b rest ih => rw [scanAll_cons, ih, scanAppend_cfg]

@[simp] theorem scanAll_mode (s : State) (g : Stage) (bytes : List Byte) : (s.scanAll g bytes).mode = s.mode := by
  induction bytes generalizing s with
  | nil => rfl
  | cons b rest ih => rw [scanAll_cons, ih, scanAppend_mode]

@[simp] theorem scanAll_scanBuf (s : State) (g : Stage) (bytes : List Byte) :
    (s.scanAll g bytes).scanBuf = s.scanBuf ++ bytes := by
  induction bytes generalizing s with
  | nil => simp
  | cons b rest ih => rw [scanAll_cons, ih, scanAppend_scanBuf, List.append_assoc, List.singleton_append]

theorem scanAll_scanCount (s : State) (g : Stage) (bytes : List Byte) :
    (s.scanAll g bytes).scanCount.toNat = min (s.scanCount.toNat + bytes.length) (2 ^ 32 - 1) := by
  induction bytes generalizing s with
  | nil => have := s.scanCount.isLt; simp only [scanAll_nil, List.length_nil]; omega
  | cons b rest ih => rw [scanAll_cons, ih, scanAppend_scanCount, satInc_toNat, List.length_cons]; omega

/-- R101: in exact mode DIVERGED stays set. -/
theorem scanAll_diverged {s : State} {g : Stage} (he : g.exact s.mode = true) (hd : s.diverged = true)
    (bytes : List Byte) : (s.scanAll g bytes).diverged = true := by
  induction bytes generalizing s with
  | nil => exact hd
  | cons b rest ih =>
    have hnext : (s.scanAppend g b).diverged = true := by
      rw [scanAppend_diverged, nextDiverged_exact he, hd, Bool.true_or]
    exact ih he hnext

/-- Settles O28: DIVERGED stays set, and the count is past M after one more byte. -/
theorem divergedNeverMatches : Obligations.DivergedNeverMatches := by
  intro s g bytes hc he hne
  change (s.diverged = true → (s.scanAll g bytes).diverged = true ∧ (s.scanAll g bytes).scanMatched g = false) ∧
    (_ → (s.scanAll g bytes).scanMatched g = false)
  have hmatch := scanMatched_exact_iff (t := s.scanAll g bytes) (g := g) (by rwa [scanAll_mode])
  rw [← Bool.not_eq_true, hmatch]
  refine ⟨fun hd => ?_, fun hpast => ?_⟩
  · have hkept := scanAll_diverged he hd bytes
    exact ⟨hkept, by simp [hkept]⟩
  · rintro ⟨-, hcount⟩
    obtain ⟨-, h15, -⟩ := marker_bounds s.cfg hc g
    have hpos : 0 < bytes.length := List.length_pos_iff.2 hne
    rw [scanAll_scanCount, scanAll_cfg] at hcount
    omega

/-! ### The reference predicate -/

/-- The reference predicate reads MODE and the build only. -/
theorem satisfied_congr {s t : State} (hmode : t.mode = s.mode) (hcfg : t.cfg = s.cfg) (g : Stage) (sb : List Byte) :
    g.satisfied t sb ↔ g.satisfied s sb := by
  rw [Stage.satisfied, Stage.satisfied, hmode, hcfg]

/-- R50 item 8 over many bytes: as long as no ScanBuffer on the way satisfies the reference predicate, the registers
agree with the ScanBuffer. -/
theorem scanAll_agrees {s : State} {g : Stage} {bytes : List Byte} (hc : s.cfg.wf = true) (h : s.ScanAgrees g)
    (hno : ∀ p, p <+: bytes → ¬ g.satisfied s (s.scanBuf ++ p)) : (s.scanAll g bytes).ScanAgrees g := by
  induction bytes generalizing s with
  | nil => exact h
  | cons b rest ih =>
    have hmiss : ¬ (s.scanAppend g b).scanMatched g = true := by
      rw [scanMatched_iff s g b hc h]
      exact hno [b] (List.prefix_append [b] rest)
    obtain ⟨hcount, hwin, hdiv⟩ := scanAppend_agrees s g b hc h
    refine ih hc ⟨hcount, hwin, hdiv, notYetMatched_append s g b hc h hmiss⟩ fun p hp => ?_
    rw [satisfied_congr (scanAppend_mode s g b) (scanAppend_cfg s g b), scanAppend_scanBuf, List.append_assoc]
    exact hno (b :: p) (List.cons_prefix_cons.2 ⟨rfl, hp⟩)

/-- Settles O26: before the last byte the registers agree with a ScanBuffer that has not matched, so at that byte
`scanMatched_iff` decides. -/
theorem scannerEqualsReference : Obligations.ScannerEqualsReference := by
  intro s g bytes hc hne hno
  obtain rfl | ⟨init, b, rfl⟩ := bytes.eq_nil_or_concat'
  · exact absurd rfl hne
  change (s.scanEnter.scanAll g (init ++ [b])).scanMatched g = true ↔ _
  have hagree : (s.scanEnter.scanAll g init).ScanAgrees g := by
    refine scanAll_agrees hc (scanEnter_agrees s g hc) fun p hp => ?_
    have hlt : p.length < (init ++ [b]).length := by
      have := hp.length_le
      rw [List.length_append, List.length_singleton]
      omega
    have hmiss := hno p.length hlt
    rwa [← List.prefix_iff_eq_take.1 (hp.trans (List.prefix_append init [b]))] at hmiss
  rw [scanAll_concat, scanMatched_iff _ g b (by rwa [scanAll_cfg]) hagree, scanAll_scanBuf,
    satisfied_congr (scanAll_mode ..) (scanAll_cfg ..)]
  exact Iff.rfl

/-! ### The AWAIT row of a cycle that consumes a byte -/

theorem exec_row (g : Stage) (s : State) : exec g.row s = .next (s.awaitStep g) := by
  cases g <;> rfl

theorem deadlinePassed_eq_false_iff (s : State) :
    s.deadlinePassed = false ↔ s.deadline = 0 ∨ s.stageCycles < s.deadline := by
  simp [State.deadlinePassed, imp_iff_not_or]

/-- R135: without an error, the row scans the byte. -/
theorem awaitStep_of_byte {s : State} (g : Stage) (he : s.input.rxErr = false) (hd : s.deadlinePassed = false)
    (hv : s.input.rxValid = true) :
    s.awaitStep g = State.scanByte { s with stageCycles := satInc s.stageCycles } g s.input.rxData := by
  simp [State.awaitStep, he, hd, hv]

theorem scanByte_of_match {s : State} {g : Stage} {b : Byte} (h : (s.scanAppend g b).scanMatched g = true) :
    s.scanByte g b = ((s.scanAppend g b).setEvent g.event).stageExit g := if_pos h

theorem scanByte_of_no_match {s : State} {g : Stage} {b : Byte} (h : ¬ (s.scanAppend g b).scanMatched g = true) :
    s.scanByte g b = s.scanAppend g b := if_neg h

theorem stageExit_state (s : State) (g : Stage) : (s.stageExit g).state = g.nextState := by
  cases g <;> rfl

/-- Settles O27: the registers of a legal stage agree with its ScanBuffer, so the row's match test is the reference
predicate. -/
theorem stageLeavesExactlyOnMarker : Obligations.StageLeavesExactlyOnMarker := by
  intro s g hl hs he hd hv
  obtain ⟨⟨hc, -⟩, -, -, -, hagree⟩ := (legal_await_iff hs).1 hl
  have hmatch :
      (State.scanAppend { s with stageCycles := satInc s.stageCycles } g s.input.rxData).scanMatched g = true ↔
        g.satisfied s (s.scanBuf ++ [s.input.rxData]) :=
    scanMatched_iff { s with stageCycles := satInc s.stageCycles } g s.input.rxData hc hagree
  refine ⟨_, exec_row g s, ?_⟩
  rw [awaitStep_of_byte g he ((deadlinePassed_eq_false_iff s).2 hd) hv, ← hmatch]
  refine ⟨fun h => ?_, fun h => ?_⟩
  · rw [scanByte_of_match h, stageExit_state]
  · rw [scanByte_of_no_match h]
    exact ⟨rfl, rfl⟩

/-! ### EVENTS and IRQ_EN steer nothing -/

/-- `t` is `s` but for EVENTS, IRQ_EN and `bus_rdata`. -/
def State.SameButEvents (s t : State) : Prop :=
  ∃ ev en rd, t = s.withHost ev en rd s.inputs

/-- Both runs go on, in states that are the same but for EVENTS, IRQ_EN and `bus_rdata`. -/
def GoOnSameButEvents (o p : Host.Outcome State Fault Refusal) : Prop :=
  ∃ s t, o = .next s ∧ p = .next t ∧ s.SameButEvents t

theorem GoOnSameButEvents.andThen {o p : Host.Outcome State Fault Refusal}
    {f g : State → Host.Outcome State Fault Refusal} (h : GoOnSameButEvents o p)
    (hfg : ∀ s t : State, s.SameButEvents t → GoOnSameButEvents (f s) (g t)) :
    GoOnSameButEvents (andThen o f) (andThen p g) := by
  obtain ⟨s, t, rfl, rfl, hst⟩ := h
  exact hfg s t hst

/-- R182: whether the payload fits is told by PAYLOAD_LEN and the build. -/
theorem State.SameButEvents.cmdStart {s t : State} (h : s.SameButEvents t) : s.cmdStart.SameButEvents t.cmdStart := by
  obtain ⟨ev, en, rd, rfl⟩ := h
  change State.SameButEvents (if s.cfg.payloadCap < s.payloadLen then _ else _)
    (if s.cfg.payloadCap < s.payloadLen then _ else _)
  split
  · exact ⟨_, _, _, rfl⟩
  · exact ⟨_, _, _, rfl⟩

/-- R180, R212: the condition of each command reads DATA and STATE only. -/
theorem State.SameButEvents.command {s t : State} (h : s.SameButEvents t) (d : Word) :
    (s.command d).SameButEvents (t.command d) := by
  have hstart := h.cmdStart
  obtain ⟨ev, en, rd, rfl⟩ := h
  change State.SameButEvents
    (if s.startActs d then _ else if s.abortActs d then _ else if s.clearActs d then _ else _)
    (if s.startActs d then _ else if s.abortActs d then _ else if s.clearActs d then _ else _)
  split
  · exact hstart
  split
  · exact ⟨_, _, _, rfl⟩
  split
  · exact ⟨_, _, _, rfl⟩
  · exact ⟨_, _, _, rfl⟩

/-- R40: whether a configuration write takes effect hangs on STATE only. -/
theorem State.SameButEvents.whileIdle {s t : State} {f : State → State} (h : s.SameButEvents t)
    (hf : (f s).SameButEvents (f t)) : (s.whileIdle f).SameButEvents (t.whileIdle f) := by
  have hactive : t.active = s.active := by
    obtain ⟨ev, en, rd, rfl⟩ := h
    rfl
  rw [State.whileIdle, State.whileIdle, hactive]
  split
  · exact h
  · exact hf

theorem State.SameButEvents.exec_readRow {s t : State} (h : s.SameButEvents t) (off : BitVec 8) (d : Word) :
    GoOnSameButEvents (exec (readRow off d) s) (exec (readRow off d) t) := by
  obtain ⟨v, hv, -⟩ := Machine.exec_readRow off d s
  obtain ⟨w, hw, -⟩ := Machine.exec_readRow off d t
  obtain ⟨ev, en, rd, rfl⟩ := h
  exact ⟨_, _, hv, hw, ev, en, w, rfl⟩

theorem State.SameButEvents.exec_writeRow {s t : State} (h : s.SameButEvents t) (off : BitVec 8) (d : Word) :
    GoOnSameButEvents (exec (writeRow off d) s) (exec (writeRow off d) t) := by
  unfold writeRow
  split
  case h_2 => exact ⟨_, _, rfl, rfl, h.command d⟩
  case h_4 | h_5 | h_6 | h_7 | h_8 =>
    refine ⟨_, _, rfl, rfl, h.whileIdle ?_⟩
    obtain ⟨ev, en, rd, rfl⟩ := h
    exact ⟨_, _, _, rfl⟩
  all_goals
    obtain ⟨ev, en, rd, rfl⟩ := h
    exact ⟨_, _, rfl, rfl, _, _, _, rfl⟩

/-- R180 (1): the BUS phase. -/
theorem State.SameButEvents.busPhase {s t : State} (h : s.SameButEvents t) :
    GoOnSameButEvents ((s.withRdata 0).busPhase s.busRow?) ((t.withRdata 0).busPhase t.busRow?) := by
  have hrdata : (s.withRdata 0).SameButEvents (t.withRdata 0) := by
    obtain ⟨ev, en, rd, rfl⟩ := h
    exact ⟨ev, en, 0, rfl⟩
  have hrow : t.busRow? = s.busRow? := by
    obtain ⟨ev, en, rd, rfl⟩ := h
    rfl
  rw [hrow]
  cases hen : s.input.busEn with
  | false =>
    rw [State.busRow?, hen]
    exact ⟨_, _, rfl, rfl, hrdata⟩
  | true =>
    obtain ⟨off, d, hdecode⟩ := decodeBus_portWord s.input
    rw [State.busRow?, hen, hdecode]
    change GoOnSameButEvents (exec _ _) (exec _ _)
    split
    · exact hrdata.exec_writeRow off d
    · exact hrdata.exec_readRow off d

/-- R180 (2): the STEP row, by `exec_stepRow_uniform`. -/
theorem State.SameButEvents.enginePhase {s s' t t' : State} (hs : s.SameButEvents s') (ht : t.SameButEvents t')
    (hd : s.DrainOk) : GoOnSameButEvents (s.enginePhase t) (s'.enginePhase t') := by
  obtain ⟨ev', en', rd', rfl⟩ := hs
  have hab : (s.withHost ev' en' rd' s.inputs).abortsNow = s.abortsNow := rfl
  rw [State.enginePhase, State.enginePhase, hab]
  split
  · exact ⟨_, _, rfl, rfl, ht⟩
  · obtain ⟨ev, en, rd, rfl⟩ := ht
    obtain ⟨m, u, hu⟩ := exec_stepRow_uniform s t t.input hd
    exact ⟨_, _, hu t.events t.irqEn t.busRdata t.inputs (sameEnginePorts_of_eq rfl),
      hu ev en rd t.inputs (sameEnginePorts_of_eq rfl), _, _, _, rfl⟩

theorem State.SameButEvents.endCycle {s s' t t' : State} (hs : s.SameButEvents s') (ht : t.SameButEvents t') :
    (s.endCycle t).SameButEvents (s'.endCycle t') := by
  obtain ⟨ev', en', rd', rfl⟩ := hs
  obtain ⟨ev, en, rd, rfl⟩ := ht
  exact ⟨ev, en, rd, rfl⟩

/-- R180: the two rows of a cycle. -/
theorem State.SameButEvents.runRows {s t : State} (h : s.SameButEvents t) (hd : s.DrainOk) :
    GoOnSameButEvents s.runRows t.runRows := by
  refine .andThen h.busPhase fun u v huv => ?_
  refine .andThen (h.enginePhase huv hd) fun u' v' hend => ?_
  exact ⟨_, _, rfl, rfl, h.endCycle hend⟩

/-- R109, R262: a step is a reset or the two rows, and R50, which it asks for, does not speak of EVENTS or IRQ_EN. -/
theorem State.SameButEvents.step {s t v : State} (h : s.SameButEvents t) (hstep : step s = .next v) :
    GoOnSameButEvents (step s) (step t) := by
  obtain ⟨hw, ⟨hrst, -⟩ | ⟨hrst, h50, -⟩⟩ := step_next hstep
  · obtain ⟨ev, en, rd, rfl⟩ := h
    exact ⟨_, _, step_of_rst hw hrst, step_of_rst hw hrst, 0, 0, _, rfl⟩
  · have hrows := h.runRows h50.1.1
    rw [← step_eq_runRows hw h50 hrst] at hrows
    obtain ⟨ev, en, rd, rfl⟩ := h
    rwa [step_eq_runRows (s := s.withHost ev en rd s.inputs) hw h50 hrst]

/-- Settles O48: the two states are the same but for EVENTS and IRQ_EN, and a step keeps that. -/
theorem eventsSteerNothing : Obligations.EventsSteerNothing := by
  intro s t ev en ht
  have hsame : s.SameButEvents { s with events := ev, irqEn := en } := ⟨ev, en, s.busRdata, rfl⟩
  obtain ⟨t', u, ht', hu, _, _, _, rfl⟩ := hsame.step ht
  cases ht.symm.trans ht'
  exact ⟨_, hu, rfl⟩

end Sys2Proof.Machine
end

section
/-! The AWAIT rows (spec/42_sequencer.md R131 to R133, R135): what the row of any stage does in each of the five cases of
AwaitStep, and with it the three rows, which differ in their exit only. -/

namespace Sys2Proof.Machine

/-! ### The five cases of AwaitStep, for every stage -/

/-- R135, R101: the registers after a cycle that consumes the byte offered, before the match is acted on. -/
def State.byteTaken (s : State) (g : Stage) : State :=
  State.scanAppend { s with stageCycles := satInc s.stageCycles } g s.input.rxData

theorem deadlinePassed_eq_true_iff (s : State) :
    s.deadlinePassed = true ↔ s.deadline ≠ 0 ∧ s.deadline ≤ s.stageCycles := by
  rw [State.deadlinePassed, Bool.and_eq_true, decide_eq_true_iff, decide_eq_true_iff]

theorem exec_row_of_rxErr (g : Stage) (s : State) (he : s.input.rxErr = true) :
    exec g.row s = .next (s.raiseError .rxError) := by
  rw [exec_row, State.awaitStep, if_pos he]

theorem exec_row_of_deadline (g : Stage) (s : State) (he : s.input.rxErr = false) (hset : s.deadline ≠ 0)
    (hpast : s.deadline ≤ s.stageCycles) : exec g.row s = .next (s.raiseError .deadlineExceeded) := by
  have hd : s.deadlinePassed = true := (deadlinePassed_eq_true_iff s).2 ⟨hset, hpast⟩
  rw [exec_row, State.awaitStep, if_neg (by simp [he]), if_pos hd]

theorem exec_row_of_quiet (g : Stage) (s : State) (he : s.input.rxErr = false)
    (hin : s.deadline = 0 ∨ s.stageCycles < s.deadline) (hv : s.input.rxValid = false) :
    exec g.row s = .next { s with stageCycles := satInc s.stageCycles } := by
  have hd : s.deadlinePassed = false := (deadlinePassed_eq_false_iff s).2 hin
  rw [exec_row]
  simp [State.awaitStep, he, hd, hv]

/-- R135, R101: no error and a byte, which completes no match. -/
theorem exec_row_of_no_match (g : Stage) (s : State) (he : s.input.rxErr = false)
    (hin : s.deadline = 0 ∨ s.stageCycles < s.deadline) (hv : s.input.rxValid = true)
    (hm : (s.byteTaken g).scanMatched g = false) : exec g.row s = .next (s.byteTaken g) := by
  have hd : s.deadlinePassed = false := (deadlinePassed_eq_false_iff s).2 hin
  have hno : ¬ (s.byteTaken g).scanMatched g = true := by simp [hm]
  rw [exec_row, awaitStep_of_byte g he hd hv, scanByte_of_no_match hno, State.byteTaken]

/-- R135, R101: no error and a byte, which completes a match: the stage's event is set and its exit action taken. -/
theorem exec_row_of_match (g : Stage) (s : State) (he : s.input.rxErr = false)
    (hin : s.deadline = 0 ∨ s.stageCycles < s.deadline) (hv : s.input.rxValid = true)
    (hm : (s.byteTaken g).scanMatched g = true) :
    exec g.row s = .next (((s.byteTaken g).setEvent g.event).stageExit g) := by
  have hd : s.deadlinePassed = false := (deadlinePassed_eq_false_iff s).2 hin
  rw [exec_row, awaitStep_of_byte g he hd hv, scanByte_of_match hm, State.byteTaken]

/-! ### The three exits, register by register -/

/-- R131: into AWAIT_TRIGGER on a fresh ScanBuffer. -/
theorem setEvent_stageExit_ready (t : State) :
    (t.setEvent Stage.ready.event).stageExit .ready = { t with
      state := .awaitTrigger, scanCount := 0, scanWin := List.replicate t.cfg.maxMarkerLen 0, diverged := false,
      stageCycles := 0, scanBuf := [], events := t.events ||| 0b000001 } := rfl

/-- R132: into SEND_LENGTH, the scanner registers kept. -/
theorem setEvent_stageExit_trigger (t : State) :
    (t.setEvent Stage.trigger.event).stageExit .trigger = { t with
      state := .sendLength, drain := false, events := t.events ||| 0b000010 } := rfl

/-- R133, R153: into SEND_BODY, draining at once when there is no payload. -/
theorem setEvent_stageExit_ack (t : State) :
    (t.setEvent Stage.ack.event).stageExit .ack = { t with
      state := .sendBody, txCount := 0, drain := decide (t.payloadLen = 0), events := t.events ||| 0b001000 } := rfl

/-! ### The three rows -/

/-- Settles O23: the five cases for the ready stage, with its exit. -/
theorem awaitReadyRow : Obligations.AwaitReadyRow := fun s =>
  ⟨rfl, exec_row_of_rxErr .ready s, exec_row_of_deadline .ready s, exec_row_of_quiet .ready s,
    exec_row_of_no_match .ready s, fun he hin hv hm =>
      (exec_row_of_match .ready s he hin hv hm).trans (congrArg _ (setEvent_stageExit_ready _))⟩

/-- Settles O24: the five cases for the trigger stage, with its exit. -/
theorem awaitTriggerRow : Obligations.AwaitTriggerRow := fun s =>
  ⟨rfl, exec_row_of_rxErr .trigger s, exec_row_of_deadline .trigger s, exec_row_of_quiet .trigger s,
    exec_row_of_no_match .trigger s, fun he hin hv hm =>
      (exec_row_of_match .trigger s he hin hv hm).trans (congrArg _ (setEvent_stageExit_trigger _))⟩

/-- Settles O25: the five cases for the acknowledgement stage, with its exit. -/
theorem awaitAckRow : Obligations.AwaitAckRow := fun s =>
  ⟨rfl, exec_row_of_rxErr .ack s, exec_row_of_deadline .ack s, exec_row_of_quiet .ack s,
    exec_row_of_no_match .ack s, fun he hin hv hm =>
      (exec_row_of_match .ack s he hin hv hm).trans (congrArg _ (setEvent_stageExit_ack _))⟩

end Sys2Proof.Machine
end

section
/-! The transfer (spec/43_transfer.md): the four length bytes and their reading are inverse (R150, R156), the four SEND
and DRAIN rows share one shape (R151, R152, R154, R155), and a session that reaches DONE has put its whole wire order on
the wire (R157). -/

namespace Sys2Proof.Machine

/-! ### The four length bytes -/

theorem lenByte_toNat (len : Word) (k : Nat) : (lenByte len k).toNat = len.toNat / 2 ^ (8 * k) % 2 ^ 8 := by
  rw [lenByte, BitVec.extractLsb'_toNat, Nat.shiftRight_eq_div_pow]

/-- R150: the four bytes are the base-256 digits of the length. -/
theorem deserLen_lenByte (len : Word) :
    deserLen (lenByte len 0) (lenByte len 1) (lenByte len 2) (lenByte len 3) = len.toNat := by
  have hlen := len.isLt
  simp only [deserLen, lenByte_toNat]
  omega

theorem deserLen_lt (b0 b1 b2 b3 : Byte) : deserLen b0 b1 b2 b3 < 2 ^ 32 := by
  have h0 := b0.isLt
  have h1 := b1.isLt
  have h2 := b2.isLt
  have h3 := b3.isLt
  rw [deserLen]
  omega

/-- R156: a number below 256^4 has only one base-256 writing. -/
theorem serLen_deserLen (b0 b1 b2 b3 : Byte) :
    serLen (BitVec.ofNat 32 (deserLen b0 b1 b2 b3)) = [b0, b1, b2, b3] := by
  have h0 := b0.isLt
  have h1 := b1.isLt
  have h2 := b2.isLt
  have h3 := b3.isLt
  have hval : (BitVec.ofNat 32 (deserLen b0 b1 b2 b3)).toNat = deserLen b0 b1 b2 b3 :=
    Nat.mod_eq_of_lt (deserLen_lt b0 b1 b2 b3)
  have digit {k : Nat} {b : Byte} (h : deserLen b0 b1 b2 b3 / 2 ^ (8 * k) % 2 ^ 8 = b.toNat) :
      lenByte (BitVec.ofNat 32 (deserLen b0 b1 b2 b3)) k = b :=
    BitVec.eq_of_toNat_eq (by rw [lenByte_toNat, hval, h])
  rw [deserLen] at digit ⊢
  rw [serLen, digit (k := 0) (b := b0) (by omega), digit (k := 1) (b := b1) (by omega),
    digit (k := 2) (b := b2) (by omega), digit (k := 3) (b := b3) (by omega)]

/-- Settles O29: each direction by the base-256 digits. -/
theorem lengthPrefixRoundTrip : Obligations.LengthPrefixRoundTrip :=
  ⟨deserLen_lenByte, fun b0 b1 b2 b3 => ⟨serLen_deserLen b0 b1 b2 b3, deserLen_lt b0 b1 b2 b3⟩⟩

/-! ### The outputs of the SEND states -/

/-- R41: a SEND state takes no RX byte. -/
theorem rxReady_of_sending {s : State} (h : s.sending = true) : s.rxReady = false := by
  revert h
  simp only [State.sending, State.rxReady]
  cases s.state <;> simp

/-- R151, R154: with DRAIN = 0 a SEND state offers a byte. -/
theorem outputs_of_sending {s : State} (h : s.sending = true) (hd : s.drain = false) :
    s.txValid = true ∧ s.txFlush = false ∧ s.rxReady = false := by
  simp [State.txValid, State.txFlush, h, hd, rxReady_of_sending h]

/-- R152, R155: with DRAIN = 1 a SEND state waits for the drain. -/
theorem outputs_of_draining {s : State} (h : s.sending = true) (hd : s.drain = true) :
    s.txValid = false ∧ s.txFlush = true ∧ s.rxReady = false := by
  simp [State.txValid, State.txFlush, h, hd, rxReady_of_sending h]

theorem txData_sendLength {s : State} (hs : s.state = .sendLength) (hd : s.drain = false) :
    s.txData = lenByte s.payloadLen s.lenIdx.toNat := by
  simp [State.txData, hs, hd]

theorem txData_sendBody {s : State} (hs : s.state = .sendBody) (hd : s.drain = false) :
    s.txData = memRead s.pmem s.txCount.toNat := by
  simp [State.txData, hs, hd]

/-! ### The shape of the four rows -/

/-- What the four rows share: `tx_err` raises TX_ERROR, else the row does its work `f` when the port it waits for
answers. -/
def State.handOver (s : State) (answered : CycleInput → Bool) (f : State → State) : State :=
  s.unlessTxErr fun t => if answered t.input then f t else t

theorem exec_stepSendLength (s : State) :
    exec .stepSendLength s = .next (s.handOver CycleInput.txReady State.lengthByteTaken) := rfl

theorem exec_stepDrainLength (s : State) :
    exec .stepDrainLength s = .next (s.handOver CycleInput.txDrained State.lengthDrained) := rfl

theorem exec_stepSendBody (s : State) :
    exec .stepSendBody s = .next (s.handOver CycleInput.txReady State.bodyByteTaken) := rfl

theorem exec_stepDrainBody (s : State) :
    exec .stepDrainBody s = .next (s.handOver CycleInput.txDrained State.bodyDrained) := rfl

section
variable {s : State} {answered : CycleInput → Bool} {f : State → State}

/-- R253: whatever the row, and nothing is counted. -/
theorem handOver_of_txErr (he : s.input.txErr = true) : s.handOver answered f = s.raiseError .txError :=
  if_pos he

theorem handOver_of_wait (he : s.input.txErr = false) (hr : answered s.input = false) :
    s.handOver answered f = s := by
  simp [State.handOver, State.unlessTxErr, he, hr]

theorem handOver_of_answer (he : s.input.txErr = false) (hr : answered s.input = true) :
    s.handOver answered f = f s := by
  simp [State.handOver, State.unlessTxErr, he, hr]

end

/-- R258: TX_ERROR, register by register. -/
theorem raiseError_txError (s : State) : s.raiseError .txError = { s with
    errState := s.state, errCause := 2, state := .error, drain := false, events := s.events ||| 0b100000 } := rfl

/-! ### The work of the two SEND rows -/

theorem lengthByteTaken_of_ne {s : State} (h : s.lenIdx ≠ 3) :
    s.lengthByteTaken = { s with lenIdx := s.lenIdx + 1 } := by
  rw [State.lengthByteTaken, if_neg h]

/-- R151: the fourth byte. -/
theorem lengthByteTaken_of_last {s : State} (h : s.lenIdx = 3) :
    s.lengthByteTaken = { s with lenIdx := 4, drain := true } := by
  rw [State.lengthByteTaken, if_pos h, h]
  rfl

theorem bodyByteTaken_of_ne {s : State} (h : s.txCount + 1 ≠ s.payloadLen) :
    s.bodyByteTaken = { s with txCount := s.txCount + 1 } := by
  rw [State.bodyByteTaken, if_neg h]

/-- R154: the last byte. -/
theorem bodyByteTaken_of_last {s : State} (h : s.txCount + 1 = s.payloadLen) :
    s.bodyByteTaken = { s with txCount := s.txCount + 1, drain := true } := by
  rw [State.bodyByteTaken, if_pos h]

/-! ### The four rows -/

/-- Settles O30: the shared shape, with the fourth byte apart. -/
theorem sendLengthRow : Obligations.SendLengthRow := by
  intro s
  rw [exec_stepSendLength]
  refine ⟨rfl, fun hs hd => ?_, fun he => ?_, fun he hr => ?_, fun he hr hk => ?_, fun he hr hk => ?_⟩
  · obtain ⟨hvalid, hflush, hrx⟩ := outputs_of_sending ((sending_iff s).2 (.inl hs)) hd
    exact ⟨hvalid, txData_sendLength hs hd, hflush, hrx⟩
  · rw [handOver_of_txErr he, raiseError_txError]
  · rw [handOver_of_wait he hr]
  · rw [handOver_of_answer he hr, lengthByteTaken_of_ne hk]
  · rw [handOver_of_answer he hr, lengthByteTaken_of_last hk]

/-- Settles O31: the shared shape, with the entry into AWAIT_ACK. -/
theorem drainLengthRow : Obligations.DrainLengthRow := by
  intro s
  rw [exec_stepDrainLength]
  refine ⟨rfl, fun hs => outputs_of_draining ((sending_iff s).2 (.inl hs)), fun he => ?_, fun he hr => ?_,
    fun he hr => ?_⟩
  · rw [handOver_of_txErr he, raiseError_txError]
  · rw [handOver_of_wait he hr]
  · rw [handOver_of_answer he hr]
    rfl

/-- Settles O32: the shared shape, with the last byte apart. -/
theorem sendBodyRow : Obligations.SendBodyRow := by
  intro s
  rw [exec_stepSendBody]
  refine ⟨rfl, fun hs hd => ?_, fun he => ?_, fun he hr => ?_, fun he hr hk => ?_, fun he hr hk => ?_⟩
  · obtain ⟨hvalid, hflush, hrx⟩ := outputs_of_sending ((sending_iff s).2 (.inr hs)) hd
    exact ⟨hvalid, txData_sendBody hs hd, hflush, hrx⟩
  · rw [handOver_of_txErr he, raiseError_txError]
  · rw [handOver_of_wait he hr]
  · rw [handOver_of_answer he hr, bodyByteTaken_of_ne hk]
  · rw [handOver_of_answer he hr, bodyByteTaken_of_last hk]

/-- Settles O33: the shared shape, with the entry into DONE. -/
theorem drainBodyRow : Obligations.DrainBodyRow := by
  intro s
  rw [exec_stepDrainBody]
  refine ⟨rfl, fun hs => outputs_of_draining ((sending_iff s).2 (.inr hs)), fun he => ?_, fun he hr => ?_,
    fun he hr => ?_⟩
  · rw [handOver_of_txErr he, raiseError_txError]
  · rw [handOver_of_wait he hr]
  · rw [handOver_of_answer he hr]
    rfl

/-! ### The finished session -/

/-- R253: `tx_err` ends a SEND state in ERROR, whatever the host does in that cycle. -/
theorem CycleMove.state_of_txErr {s v : State} (h : CycleMove s v) (hs : s.sending = true)
    (he : s.input.txErr = true) : v.state = .error := by
  cases h with
  | abort => rfl
  | rows t u hab hp hb hmove =>
    have herr : t.input.txErr = true := hb.input ▸ he
    cases hmove with
    | rxError | deadline | txError => rfl
    | idle hi => simp [sending_active hs] at hi
    | quiet g hg | scan g hg | found g hg => simp [sending_of_stage hg] at hs
    | txWait _ hok | lengthByte _ _ hok | lengthDrained _ _ hok | bodyByte _ _ hok | bodyDrained _ _ hok =>
      simp [herr] at hok

/-- R157: DONE is entered in a cycle that records the drain of the body, the last event of the wire order. -/
theorem CycleMove.sessTx_of_done {s v : State} (h : CycleMove s v) (hl : s.legal = true) (hagree : s.traceAgrees)
    (hs : s.state ≠ .done) (hv : v.state = .done) : s.active = true ∧ v.sessTx = s.wireOrder := by
  obtain ⟨hbody, hd, hr⟩ := (hv ▸ h.stateMove).to_done hs
  have hsend : s.sending = true := (sending_iff s).2 (.inr hbody)
  have ha : s.active = true := sending_active hsend
  have he : s.input.txErr = false := by
    by_contra hne
    cases hv.symm.trans (h.state_of_txErr hsend (Bool.eq_true_of_not_eq_false hne))
  refine ⟨ha, ?_⟩
  rw [h.sessTx_of_active ha, hagree ha, txEvent?_of_txDrained ((txFlush_iff s).2 ⟨.inr hbody, hd⟩) hr he,
    sentSoFar_txOffer_bodyDrained hl hbody hd]

/-- R62: the first `n` bytes of the payload, in order. -/
def bodyBytes (m : Memory) (n : Nat) : List Byte := (List.range n).map (memRead m)

theorem bodyEvents_eq_map (m : Memory) (n : Nat) : bodyEvents m n = (bodyBytes m n).map .byte := by
  rw [bodyEvents, bodyBytes, List.map_map]
  rfl

@[simp] theorem bodyBytes_length (m : Memory) (n : Nat) : (bodyBytes m n).length = n := by
  simp [bodyBytes]

theorem bodyBytes_getElem? (m : Memory) {n k : Nat} (hk : k < n) : (bodyBytes m n)[k]? = some (memRead m k) := by
  simp [bodyBytes, hk]

/-- R61, R71: the wire order with the four length bytes written out. -/
theorem wireOrder_eq (s : State) :
    s.wireOrder =
      [.byte (lenByte s.payloadLen 0), .byte (lenByte s.payloadLen 1), .byte (lenByte s.payloadLen 2),
        .byte (lenByte s.payloadLen 3), .drained] ++
      (bodyBytes s.pmem s.payloadLen.toNat).map .byte ++ [.drained] := by
  rw [State.wireOrder, bodyEvents_eq_map]
  rfl

/-- Settles O56: the session's trace is the wire order of the start state, whose length and payload the cycle keeps. -/
theorem finishedSessionWireOrder : Obligations.FinishedSessionWireOrder := by
  intro s t hl hagree hstep hs ht
  obtain ⟨-, ⟨-, rfl⟩ | ⟨-, -, hmove⟩⟩ := step_next hstep
  · cases ht
  · obtain ⟨ha, hwire⟩ := hmove.sessTx_of_done hl hagree hs ht
    obtain ⟨hlen, -, -, -, hpmem⟩ := hmove.sessionData_of_active ha
    refine ⟨_, _, _, _, bodyBytes s.pmem s.payloadLen.toNat, hwire.trans (wireOrder_eq s), ?_, ?_, fun k hk => ?_⟩
    · rw [deserLen_lenByte, bodyBytes_length]
    · rw [bodyBytes_length, hlen]
    · rw [hpmem, bodyBytes_getElem? _ (by simpa using hk)]

end Sys2Proof.Machine
end

section
/-! The commands (spec/44_controller.md R180, R182 to R184, R212): which of the three acts and what it leaves, that a
command bit whose state condition fails makes no difference, and ABORT's cycle, which runs no STEP row. -/

namespace Sys2Proof.Machine

/-! ### Which command acts -/

theorem exec_wrCtrl (d : Word) (s : State) : exec (.wrCtrl d) s = .next (s.command d) := rfl

theorem decodeBus_ctrl (d : Word) : decodeBus (busWord true 0x04 d) = .wrCtrl d :=
  decodeBus_busWord true 0x04 d

/-- R182: START. -/
theorem command_start {s : State} {d : Word} (hd : d.getLsbD 0 = true) (hs : s.state = .init) :
    s.command d = s.cmdStart :=
  if_pos ((startActs_iff s d).2 ⟨hd, hs⟩)

/-- R184: CLEAR; neither START nor ABORT acts in DONE or ERROR. -/
theorem command_clear {s : State} {d : Word} (hd : d.getLsbD 2 = true) (hs : s.state = .done ∨ s.state = .error) :
    s.command d = s.cmdClear := by
  have hclear : s.clearActs d = true := (clearActs_iff s d).2 ⟨hd, hs⟩
  have hstart : s.startActs d = false := by obtain hs | hs := hs <;> simp [State.startActs, hs]
  have habort : s.abortActs d = false := by
    obtain hs | hs := hs <;> simp [State.abortActs, State.active, SessionState.active, hs]
  simp [State.command, hstart, habort, hclear]

/-! ### A command bit whose state condition fails makes no difference -/

/-- R180, R212: of DATA, WR_CTRL reads no more than which commands act. -/
theorem command_congr {s : State} {d e : Word} (hstart : s.startActs d = s.startActs e)
    (habort : s.abortActs d = s.abortActs e) (hclear : s.clearActs d = s.clearActs e) :
    s.command d = s.command e := by
  rw [State.command, State.command, hstart, habort, hclear]

section
variable {s : State} {d e : Word}

theorem startActs_congr (h : s.state = .init → e.getLsbD 0 = d.getLsbD 0) : s.startActs d = s.startActs e := by
  by_cases hs : s.state = .init
  · rw [State.startActs, State.startActs, ctrlStart, ctrlStart, h hs]
  · simp [State.startActs, hs]

theorem abortActs_congr (h : s.active = true → e.getLsbD 1 = d.getLsbD 1) : s.abortActs d = s.abortActs e := by
  cases ha : s.active with
  | true => rw [State.abortActs, State.abortActs, ctrlAbort, ctrlAbort, h ha]
  | false => simp [State.abortActs, ha]

theorem clearActs_congr (h : s.state = .done ∨ s.state = .error → e.getLsbD 2 = d.getLsbD 2) :
    s.clearActs d = s.clearActs e := by
  by_cases hs : s.state = .done ∨ s.state = .error
  · rw [State.clearActs, State.clearActs, ctrlClear, ctrlClear, h hs]
  · obtain ⟨hdone, herror⟩ := not_or.1 hs
    simp [State.clearActs, hdone, herror]

end

/-! ### The two outcomes of START -/

theorem cmdStart_of_fits {s : State} (h : s.payloadLen.toNat ≤ s.cfg.payloadCap.toNat) :
    s.cmdStart = s.beginSession :=
  if_neg (by rw [BitVec.lt_def]; omega)

theorem cmdStart_of_too_large {s : State} (h : s.cfg.payloadCap.toNat < s.payloadLen.toNat) :
    s.cmdStart = s.raiseError .payloadTooLarge :=
  if_pos (BitVec.lt_def.2 h)

/-- R258: PAYLOAD_TOO_LARGE, register by register. -/
theorem raiseError_payloadTooLarge (s : State) : s.raiseError .payloadTooLarge = { s with
    errState := s.state, errCause := 5, state := .error, drain := false, events := s.events ||| 0b100000 } := rfl

/-- Settles O18: in INIT START acts, in one of its two outcomes; elsewhere only the bits of ABORT and CLEAR count. -/
theorem startCommand : Obligations.StartCommand := by
  intro d s hd
  refine ⟨decodeBus_ctrl d, fun hs hfit => ?_, fun hs hlarge => ?_, fun hs e habort hclear => ?_⟩
  · rw [exec_wrCtrl, command_start hd hs, cmdStart_of_fits hfit]
    rfl
  · rw [exec_wrCtrl, command_start hd hs, cmdStart_of_too_large hlarge, raiseError_payloadTooLarge, hs]
  · rw [exec_wrCtrl, exec_wrCtrl, command_congr (startActs_congr fun h => absurd h hs)
      (abortActs_congr fun _ => habort) (clearActs_congr fun _ => hclear)]

/-! ### ABORT -/

theorem abortsNow_of_wrCtrl {s : State} {d : Word} (h : s.busRow? = some (.wrCtrl d)) :
    s.abortsNow = s.abortActs d := by
  rw [State.abortsNow, h]

/-- R183: the cycle of an acting ABORT is its error entry, with no STEP row. -/
theorem step_of_abort {s : State} (hw : s.cfg.wf = true) (h : s.R50) (hr : s.input.rst = false)
    (hab : s.abortsNow = true) : step s = .next (s.endCycle ((s.withRdata 0).raiseError .cancelled)) := by
  obtain ⟨t, hp, ⟨-, -, rfl⟩ | ⟨hno, -⟩⟩ := busPhase_cases s
  · rw [step_eq_runRows hw h hr, State.runRows, hp]
    simp only [andThen, State.enginePhase, hab, if_true]
  · simp [hab] at hno

/-- Settles O19: an acting ABORT is the CANCELLED error entry, alone in its cycle; while idle only the bits of START and
CLEAR count. -/
theorem abortCommand : Obligations.AbortCommand := by
  intro d s hd
  have acts (ha : s.active = true) : s.abortActs d = true := (abortActs_iff s d).2 ⟨hd, ha⟩
  refine ⟨decodeBus_ctrl d, fun ha => ?_, fun ha hl hr hrow => ?_, fun hi e hstart hclear => ?_⟩
  · obtain ⟨-, hcommand⟩ := command_abort s d (acts ha)
    rw [exec_wrCtrl, hcommand]
    rfl
  · obtain ⟨-, hdone, -⟩ := (active_iff s).1 ha
    obtain ⟨⟨hw, -⟩, hcore, -⟩ := (legal_iff_sound s).1 hl
    exact step_of_abort hw (R50_of_not_done hcore hdone) hr ((abortsNow_of_wrCtrl hrow).trans (acts ha))
  · rw [exec_wrCtrl, exec_wrCtrl, command_congr (startActs_congr fun _ => hstart)
      (abortActs_congr fun ha => by simp [hi] at ha) (clearActs_congr fun _ => hclear)]

/-! ### CLEAR -/

/-- Settles O20: in DONE and ERROR CLEAR acts; elsewhere only the bits of START and ABORT count. -/
theorem clearCommand : Obligations.ClearCommand := by
  intro d s hd
  refine ⟨decodeBus_ctrl d, fun hs => ?_, fun hdone herror e hstart habort => ?_⟩
  · rw [exec_wrCtrl, command_clear hd hs]
    rfl
  · rw [exec_wrCtrl, exec_wrCtrl, command_congr (startActs_congr fun _ => hstart) (abortActs_congr fun _ => habort)
      (clearActs_congr fun hs => absurd hs (not_or.2 ⟨hdone, herror⟩))]

end Sys2Proof.Machine
end

section
/-! The controller (spec/44_controller.md R180, R181, R185 to R188): the idle and the unreachable rows, the cycle as its
two decoded rows or a stop, the transition graph, and that a host write leaves a running session alone. -/

namespace Sys2Proof.Machine

/-! ### The idle and the unreachable rows -/

/-- R41: an idle state takes no RX byte, offers no TX event and does not own the link. -/
theorem outputs_of_idle {s : State} (hi : s.active = false) :
    s.rxReady = false ∧ s.txValid = false ∧ s.txFlush = false ∧ s.linkOwned = false := by
  have hsend : s.sending = false := Bool.eq_false_of_not_eq_true fun h => by simp [sending_active h] at hi
  have hrx : s.rxReady = false := by
    obtain hs | hs | hs := (active_eq_false_iff s).1 hi <;> rw [State.rxReady, hs]
  exact ⟨hrx, by simp [State.txValid, hsend], by simp [State.txFlush, hsend], hi⟩

/-- Settles O34: the three rows are the identity, and an idle state has the idle outputs. -/
theorem idleRows : Obligations.IdleRows := by
  refine ⟨⟨rfl, rfl, rfl⟩, fun s => ⟨rfl, rfl, rfl⟩, fun s hs => ?_⟩
  obtain ⟨hrx, hvalid, hflush, hlink⟩ := outputs_of_idle ((active_eq_false_iff s).2 hs)
  exact ⟨hrx, hvalid, hflush, hlink, decide_eq_true_iff⟩

/-- Settles O35: each selector decodes to its row by evaluation, and each row is the fault. -/
theorem unreachableRowsFault : Obligations.UnreachableRowsFault :=
  fun _ => ⟨rfl, rfl, rfl, rfl, rfl, rfl, rfl, rfl, rfl, rfl, rfl, rfl⟩

/-! ### The cycle: a stop, or its two decoded rows -/

/-- R188. -/
theorem step_of_not_R50 {s : State} (hw : s.cfg.wf = true) (hr : s.input.rst = false) (h : ¬ s.R50) :
    step s = .fault .invariantViolated := by
  have h50 : ¬ s.r50 = true := fun hs => h ((r50_iff s).1 hs)
  simp [step, cycle, hw, hr, h50]

/-- R6, U4. -/
theorem step_of_bad_build {s : State} (hw : s.cfg.wf = false) : step s = .refused .badConfiguration :=
  if_pos hw

/-- Settles O36: the two stops of a step. -/
theorem illegalStatesStop : Obligations.IllegalStatesStop :=
  ⟨fun _ hw hr h => step_of_not_R50 hw hr h, fun _ hw => step_of_bad_build hw⟩

theorem busRow?_of_busEn {s : State} (h : s.input.busEn = true) :
    s.busRow? = some (decodeBus (portWord s.input)) := if_pos h

theorem busRow?_of_quiet {s : State} (h : s.input.busEn = false) : s.busRow? = none :=
  if_neg (by simp [h])

/-- R180 (2): without an acting ABORT the cycle goes on with the STEP row of its start state. -/
theorem enginePhase_of_no_abort {s : State} (h : s.abortsNow = false) : s.enginePhase = exec s.stepRow :=
  funext fun _ => if_neg (by simp [h])

/-- R180: an acting ABORT takes the place of the STEP row. -/
theorem enginePhase_of_abort {s : State} (h : s.abortsNow = true) : s.enginePhase = .next :=
  funext fun _ => if_pos h

/-- Settles O38: a step from R50 is `runRows`, whose two phases are read off the transaction and ABORT. -/
theorem stepRunsTheDecodedRows : Obligations.StepRunsTheDecodedRows := by
  intro s hw h50 hr
  rw [step_eq_runRows hw h50 hr, State.runRows]
  refine ⟨fun hen => ?_, fun hen hab => ?_, fun hen hab => ?_⟩
  · have hrow := busRow?_of_quiet hen
    rw [enginePhase_of_no_abort (by rw [State.abortsNow, hrow]), hrow]
    rfl
  · rw [enginePhase_of_no_abort hab, busRow?_of_busEn hen]
    rfl
  · rw [enginePhase_of_abort hab, busRow?_of_busEn hen]
    rfl

/-! ### The transition graph -/

theorem arrow_of_eq {p q : SessionState} (h : q = p) : arrow p q = true := by
  simp [arrow, h]

/-- R187: an error is an arrow of every ACTIVE state. -/
theorem arrow_error_of_active {s : State} (h : s.active = true) : arrow s.state .error = true := by
  revert h
  rw [State.active]
  cases s.state <;> decide

/-- R130, R187: a stage's match is an arrow. -/
theorem arrow_nextState (g : Stage) : arrow g.state g.nextState = true := by
  cases g <;> rfl

/-- R187: of the BUS rows START and CLEAR move STATE. -/
theorem BusMove.follows_arrow {s t : State} (h : BusMove s t) : arrow s.state t.state = true := by
  cases h with
  | start hs | tooLarge hs => rw [hs]; rfl
  | clear hs => obtain hs | hs := hs <;> rw [hs] <;> rfl
  | _ => exact arrow_of_eq rfl

/-- R187: the STEP row moves STATE by an error, a match or a drain. -/
theorem EngineMove.follows_arrow {s t u : State} (h : EngineMove s t u) (hst : t.state = s.state) :
    arrow s.state u.state = true := by
  cases h with
  | idle | quiet | scan | txWait | lengthByte | bodyByte => exact arrow_of_eq hst
  | rxError g hs | deadline g hs => exact arrow_error_of_active (stage_active hs)
  | txError hs => exact arrow_error_of_active (sending_active hs)
  | found g hs => rw [hs, stageExit_state]; exact arrow_nextState g
  | lengthDrained hs | bodyDrained hs => rw [hs]; rfl

/-- R180, R187: only one of the two rows of a cycle moves STATE: the BUS row in an idle state, the STEP row in an ACTIVE
one. -/
theorem CycleMove.follows_arrow {s v : State} (h : CycleMove s v) : arrow s.state v.state = true := by
  cases h with
  | abort hab ha => exact arrow_error_of_active ha
  | rows t u hab hp hb he =>
    change arrow s.state u.state = true
    cases ha : s.active with
    | false =>
      rw [he.eq_of_idle ha]
      exact hb.follows_arrow
    | true =>
      obtain ⟨hst, -⟩ := hb.selector_of_active ha
      exact he.follows_arrow hst

/-- Settles O44: a step is a reset, which ends in INIT, or a `CycleMove`, which follows an arrow. -/
theorem transitionGraph : Obligations.TransitionGraph := by
  intro s t h
  obtain ⟨-, ⟨hr, rfl⟩ | ⟨hr, -, hmove⟩⟩ := step_next h
  · exact ⟨fun hno => by simp [hno] at hr, fun _ => rfl⟩
  · exact ⟨fun _ => hmove.follows_arrow, fun hyes => by simp [hyes] at hr⟩

/-! ### A host write leaves a running session alone -/

/-- R40, R45, R292: in an ACTIVE state the BUS phase of a write without an acting ABORT leaves all but EVENTS and IRQ_EN
as a cycle without a transaction does. -/
theorem busPhase_write_of_active {s : State} (ha : s.active = true) (hwe : s.input.busWe = true)
    (hab : s.abortsNow = false) :
    ∃ ev en, (s.withRdata 0).busPhase s.busRow? = .next (s.withHost ev en 0 s.inputs) := by
  obtain ⟨t, hp, ⟨hyes, -⟩ | ⟨-, hb⟩⟩ := busPhase_cases s
  · simp [hab] at hyes
  · obtain ⟨-, hzero⟩ := busPhase_busRdata hp
    have hframe := hb.active ha
    rw [hzero (.inr hwe)] at hframe
    exact ⟨t.events, t.irqEn, hp.trans (congrArg _ hframe)⟩

/-- Settles O46: the write leaves the engine its state and its ports, and the STEP row does the same with another
host's side, by `exec_stepRow_uniform`. -/
theorem hostWritesDoNotSteerTheEngine : Obligations.HostWritesDoNotSteerTheEngine := by
  intro s t i rest hin hrst _ hwe ha hab ht
  have hi : s.input = i := input_of_inputs hin
  have hr : s.input.rst = false := by rw [hi, hrst]
  obtain ⟨hw, ⟨hrst', -⟩ | ⟨-, h50, -⟩⟩ := step_next ht
  · simp [hr] at hrst'
  obtain ⟨ev, en, hwrite⟩ := busPhase_write_of_active ha (by rw [hi, hwe]) hab
  obtain ⟨m, u, hengine⟩ := exec_stepRow_uniform s s i h50.1.1
  have hcycle := step_of_rows hw h50 hr hab hwrite (hengine ev en 0 s.inputs (sameEnginePorts_of_eq hi))
  have hquiet := step_of_rows (s := { s with inputs := { i with busEn := false } :: rest }) hw h50 hrst rfl rfl
    (hengine s.events s.irqEn 0 ({ i with busEn := false } :: rest) ⟨rfl, rfl, rfl, rfl, rfl, rfl⟩)
  refine ⟨_, hquiet, ?_⟩
  cases ht.symm.trans hcycle
  cases s
  cases hin
  rfl

end Sys2Proof.Machine
end

section
/-! The register window (spec/45_register_access.md): what each read returns, what each write stores while idle and in
every state, that everything else stands, and how a PAYLOAD_LEN written in DONE meets R50 (log entry 6). -/

namespace Sys2Proof.Machine

/-! ### Reads -/

/-- R8: a narrow value on `bus_rdata` is zero-extended. -/
theorem withRdata_zext {n : Nat} (s : State) (v : BitVec n) :
    s.withRdata (v.setWidth 32) = { s with busRdata := BitVec.ofNat 32 v.toNat } := by
  rw [BitVec.ofNat_toNat]
  rfl

/-- Settles O6: each offset selects its row, and each row puts its register on `bus_rdata`. -/
theorem registerReads : Obligations.RegisterReads := by
  intro d s
  obtain ⟨hmap, -⟩ := busOpcodeMap
  obtain ⟨hid, hctrl, -, hmode, hlen, hdeadline, haddr, -, hscan, htx, hevents, hirq, hcap, -, hcycles, -⟩ := hmap d
  exact ⟨hid, hctrl, hlen, hdeadline, haddr, hscan, htx, hcap, hcycles, hmode, hevents, hirq,
    rfl, rfl, rfl, rfl, rfl, rfl, rfl, rfl, rfl,
    congrArg _ (withRdata_zext s s.mode), congrArg _ (withRdata_zext s s.events),
    congrArg _ (withRdata_zext s s.irqEn)⟩

/-- The bits a zero-extension adds. -/
theorem extractLsb'_setWidth_above {w start : Nat} (v len : Nat) (x : BitVec w) (h : w ≤ start) :
    (x.setWidth v).extractLsb' start len = 0 := by
  refine BitVec.eq_of_getLsbD_eq fun k _ => ?_
  have hk : w ≤ start + k := by omega
  simp [BitVec.getLsbD_of_ge x _ hk]

/-- R44, as the list of the five session states. -/
theorem active_iff_session (s : State) :
    s.active = true ↔ s.state = .awaitReady ∨ s.state = .awaitTrigger ∨ s.state = .sendLength ∨
      s.state = .awaitAck ∨ s.state = .sendBody := by
  unfold State.active
  cases s.state <;> decide

/-- R39: the fields of STATUS that are wider than a bit. -/
theorem statusWord_fields (s : State) :
    s.statusWord.extractLsb' 0 3 = s.state.code ∧ s.statusWord.extractLsb' 6 2 = 0 ∧
    s.statusWord.extractLsb' 8 4 = s.errCause ∧ s.statusWord.extractLsb' 12 3 = s.errState.code ∧
    s.statusWord.extractLsb' 16 3 = s.lenIdx ∧ s.statusWord.extractLsb' 19 13 = 0 := by
  refine ⟨?_, ?_, ?_, ?_, ?_, extractLsb'_setWidth_above 32 13 _ le_rfl⟩ <;>
    simp (disch := decide) only [State.statusWord, BitVec.extractLsb'_setWidth_of_le,
      BitVec.extractLsb'_append_eq_of_le, BitVec.extractLsb'_append_eq_right, BitVec.extractLsb'_eq_self, Nat.reduceSub, BitVec.ofNat_eq_ofNat]

/-- R39: the single bits of STATUS. -/
theorem statusWord_bits (s : State) :
    s.statusWord.getLsbD 3 = s.active ∧ s.statusWord.getLsbD 4 = s.diverged ∧ s.statusWord.getLsbD 5 = s.drain ∧
    s.statusWord.getLsbD 15 = false := by
  simp only [State.statusWord, BitVec.getLsbD_setWidth, BitVec.getLsbD_append]
  simp

/-- Settles O7: STATUS is the concatenation of its fields, so each stands at its offset. -/
theorem statusReadLayout : Obligations.StatusReadLayout := by
  intro d s
  obtain ⟨hstate, hzero6, hcause, herror, hlen, hzero19⟩ := statusWord_fields s
  obtain ⟨hactive, hdiverged, hdrain, hzero15⟩ := statusWord_bits s
  rw [← active_iff_session]
  exact ⟨decodeBus_busWord false 0x08 d, s.statusWord, rfl, hstate, by rw [hactive], hdiverged, hdrain, hzero6, hcause,
    herror, hzero15, hlen, hzero19⟩

/-- R38: the fields of MARKER_INFO. -/
theorem markerInfo_fields (c : BuildConfig) :
    (markerInfo c).extractLsb' 0 4 = BitVec.ofNat 4 c.markerReady.length ∧
    (markerInfo c).extractLsb' 4 4 = BitVec.ofNat 4 c.markerTrigger.length ∧
    (markerInfo c).extractLsb' 8 4 = BitVec.ofNat 4 c.markerAck.length ∧
    (markerInfo c).extractLsb' 12 20 = 0 := by
  refine ⟨?_, ?_, ?_, extractLsb'_setWidth_above 32 20 _ le_rfl⟩ <;>
    simp (disch := decide) only [markerInfo, BitVec.extractLsb'_setWidth_of_le, BitVec.extractLsb'_append_eq_of_le,
      BitVec.extractLsb'_append_eq_right, BitVec.extractLsb'_eq_self, Nat.reduceSub]

/-- R6: the length of a marker fits the four bits MARKER_INFO has for it. -/
theorem markerLength_toNat {c : BuildConfig} (h : c.wf = true) (g : Stage) :
    (BitVec.ofNat 4 (g.marker c).length).toNat = (g.marker c).length := by
  obtain ⟨-, h15, -⟩ := marker_bounds c h g
  exact (BitVec.toNat_ofNat _ 4).trans (Nat.mod_eq_of_lt (by omega))

/-- Settles O8: each field is a length, which R6 keeps below 16; the default lengths are 8, 3 and 2. -/
theorem markerInfoRead : Obligations.MarkerInfoRead := by
  refine ⟨decodeBus_busWord false 0x34, fun d s hw => ?_, fun d s hready htrigger hack => ?_⟩
  · obtain ⟨hready, htrigger, hack, hzero⟩ := markerInfo_fields s.cfg
    refine ⟨markerInfo s.cfg, rfl, ?_, ?_, ?_, hzero⟩
    · rw [hready]; exact markerLength_toNat hw .ready
    · rw [htrigger]; exact markerLength_toNat hw .trigger
    · rw [hack]; exact markerLength_toNat hw .ack
  · have hinfo : markerInfo s.cfg = 0x238 := by
      rw [markerInfo, hready, htrigger, hack]
      decide
    exact congrArg (fun v => Host.Outcome.next (s.withRdata v)) hinfo

/-- Settles O9: the window shows the byte below PAYLOAD_CAP and 0 from there up. -/
theorem pmemDataRead : Obligations.PmemDataRead := by
  intro d s
  have hread : exec (.rdPmemData d) s = .next (s.withRdata s.pmemWindow) := rfl
  refine ⟨decodeBus_busWord false 0x1C d, fun hin => ?_, fun hout => ?_⟩
  · rw [hread, State.pmemWindow, if_pos (BitVec.lt_def.2 hin), withRdata_zext]
  · rw [hread, State.pmemWindow, if_neg (by rw [BitVec.lt_def]; omega)]
    rfl

/-- Settles O10: RD_RSVD reads 0, and R81 sends every reserved offset there. -/
theorem reservedReadsReturnZero : Obligations.ReservedReadsReturnZero := by
  intro off d s
  refine ⟨rfl, fun hres => ?_⟩
  obtain ⟨hrow, -⟩ := busOpcodeMap.2 off d hres
  rw [hrow]
  rfl

/-! ### Writes without effect -/

/-- Settles O17: each row, WR_RSVD for the reserved offsets included, is the identity. -/
theorem ignoredWrites : Obligations.IgnoredWrites := by
  refine ⟨fun d s => ?_, fun off d s => ⟨rfl, fun hres => ?_⟩⟩
  · exact ⟨decodeBus_busWord true 0x00 d, decodeBus_busWord true 0x08 d, decodeBus_busWord true 0x20 d,
      decodeBus_busWord true 0x24 d, decodeBus_busWord true 0x30 d, decodeBus_busWord true 0x34 d,
      decodeBus_busWord true 0x38 d, rfl, rfl, rfl, rfl, rfl, rfl, rfl⟩
  · obtain ⟨-, hrow⟩ := busOpcodeMap.2 off d hres
    rw [hrow]
    rfl

/-! ### Configuration writes -/

/-- R40: while idle a configuration write acts. -/
theorem whileIdle_of_idle {s : State} (hi : s.active = false) (f : State → State) : s.whileIdle f = f s :=
  if_neg (by simp [hi])

/-- R40: in an ACTIVE state it is ignored. -/
theorem whileIdle_of_active {s : State} (ha : s.active = true) (f : State → State) : s.whileIdle f = s :=
  if_pos ha

/-- R82: the low bits of DATA, as a remainder. -/
theorem extractLsb'_zero_eq_ofNat_mod (d : Word) (n : Nat) :
    d.extractLsb' 0 n = BitVec.ofNat n (d.toNat % 2 ^ n) := by
  apply BitVec.eq_of_toNat_eq
  simp

/-- Settles O13: the four rows are `whileIdle` stores, of DATA or of its low three bits. -/
theorem configurationWrites : Obligations.ConfigurationWrites := by
  intro d s
  have hmode : modeOperand d = BitVec.ofNat 3 (d.toNat % 8) := extractLsb'_zero_eq_ofNat_mod d 3
  refine ⟨decodeBus_busWord true 0x0C d, decodeBus_busWord true 0x10 d, decodeBus_busWord true 0x14 d,
    decodeBus_busWord true 0x18 d, fun hidle => ?_, fun hinit hdone herror => ?_⟩
  · have hi := (active_eq_false_iff s).2 hidle
    have hstore (f : State → State) : (.next (s.whileIdle f) : Host.Outcome State Fault Refusal) = .next (f s) := by
      rw [whileIdle_of_idle hi]
    rw [← hmode]
    exact ⟨hstore _, hstore _, hstore _, hstore _⟩
  · have ha := (active_iff s).2 ⟨hinit, hdone, herror⟩
    have hkeep (f : State → State) : (.next (s.whileIdle f) : Host.Outcome State Fault Refusal) = .next s := by
      rw [whileIdle_of_active ha]
    exact ⟨hkeep _, hkeep _, hkeep _, hkeep _⟩

/-! ### PMEM_DATA writes -/

/-- R223: PMEM_ADDR advances modulo 2^32. -/
theorem add_one_eq_ofNat_mod (a : Word) : a + 1 = BitVec.ofNat 32 ((a.toNat + 1) % 2 ^ 32) := by
  apply BitVec.eq_of_toNat_eq
  simp

/-- R223: below PAYLOAD_CAP the byte is stored. -/
theorem pmemStore_pmem_of_lt {s : State} (h : s.pmemAddr.toNat < s.cfg.payloadCap.toNat) (b : Byte) :
    (s.pmemStore b).pmem = s.pmem.write s.pmemAddr.toNat b :=
  if_pos (BitVec.lt_def.2 h)

/-- R223: from PAYLOAD_CAP up nothing is stored. -/
theorem pmemStore_pmem_of_le {s : State} (h : s.cfg.payloadCap.toNat ≤ s.pmemAddr.toNat) (b : Byte) :
    (s.pmemStore b).pmem = s.pmem :=
  if_neg (by rw [BitVec.lt_def]; omega)

/-- R223: a store leaves what every other address holds. -/
theorem pmemStore_read?_other (s : State) (b : Byte) {a : Nat} (h : a ≠ s.pmemAddr.toNat) :
    (s.pmemStore b).pmem.read? a = s.pmem.read? a := by
  rw [pmemStore_pmem]
  split
  · exact Memory.read?_write_other _ _ _ _ h
  · rfl

/-- Settles O14: while idle the row is `State.pmemStore`, whose byte is stored below PAYLOAD_CAP only. -/
theorem pmemDataWrite : Obligations.PmemDataWrite := by
  intro d s
  refine ⟨decodeBus_busWord true 0x1C d, fun hidle => ?_, fun hinit hdone herror => ?_⟩
  · have hi := (active_eq_false_iff s).2 hidle
    refine ⟨s.pmemStore (byteOperand d), congrArg _ (whileIdle_of_idle hi _), ?_, fun hin => ?_, fun a ha => ?_,
      fun hout => pmemStore_pmem_of_le hout _⟩
    · rw [← add_one_eq_ofNat_mod]
      rfl
    · rw [pmemStore_pmem_of_lt hin, memRead_write_same]
      exact extractLsb'_zero_eq_ofNat_mod d 8
    · have hkept := pmemStore_read?_other s (byteOperand d) ha
      exact ⟨by rw [memRead, hkept, memRead], hkept⟩
  · exact congrArg _ (whileIdle_of_active ((active_iff s).2 ⟨hinit, hdone, herror⟩) _)

/-! ### EVENTS, IRQ_EN and CTRL writes -/

/-- Settles O15: of `getLsbD_clearEvents_or`, the cycle in which nothing is set. -/
theorem eventsWriteOneToClear : Obligations.EventsWriteOneToClear := by
  intro d s
  refine ⟨decodeBus_busWord true 0x28 d, _, rfl, rfl, fun k hk => ?_⟩
  have hbit := getLsbD_clearEvents_or s.events (eventOperand d) 0 hk
  rw [getLsbD_eventOperand d hk] at hbit
  simpa using hbit

/-- Settles O16: bit k of the operand is bit k of DATA. -/
theorem irqEnableWrite : Obligations.IrqEnableWrite := fun d _ =>
  ⟨decodeBus_busWord true 0x2C d, _, rfl, rfl, fun _ hk => getLsbD_eventOperand d hk⟩

/-- R212: no command bit, no command. -/
theorem command_zero (s : State) : s.command 0 = s := by
  simp [State.command, State.startActs, State.abortActs, State.clearActs, ctrlStart, ctrlAbort, ctrlClear]

/-- Settles O21: a command bit that is not set where its condition holds makes DATA as good as 0. -/
theorem ctrlWithoutCommand : Obligations.CtrlWithoutCommand := by
  intro d s hstart habort hclear
  have hnone : s.command d = s.command 0 :=
    command_congr (startActs_congr fun h => (hstart h).symm) (abortActs_congr fun h => (habort h).symm)
      (clearActs_congr fun h => (hclear h).symm)
  rw [exec_wrCtrl, hnone, command_zero]

/-! ### PAYLOAD_LEN in DONE -/

/-- R181, R185, R186: the STEP row of an idle state does nothing. -/
theorem exec_stepRow_of_idle {s : State} (hi : s.active = false) (hd : s.DrainOk) (t : State) :
    exec s.stepRow t = .next t := by
  obtain ⟨u, hu, hmove⟩ := exec_stepRow s t hd
  rw [hu, hmove.eq_of_idle hi]

/-- R219: a WR_PAYLOAD_LEN cycle in an idle state. -/
theorem step_of_wrPayloadLen {s : State} {d : Word} (hw : s.cfg.wf = true) (h : s.R50) (hi : s.active = false)
    (hr : s.input.rst = false) (hrow : s.busRow? = some (.wrPayloadLen d)) :
    step s = .next (s.endCycle { s.withRdata 0 with payloadLen := d }) := by
  have hbus : (s.withRdata 0).busPhase s.busRow? = .next { s.withRdata 0 with payloadLen := d } := by
    rw [hrow]
    exact congrArg _ (whileIdle_of_idle (s := s.withRdata 0) hi _)
  exact step_of_rows hw h hr (by rw [State.abortsNow, hrow]) hbus (exec_stepRow_of_idle hi h.1.1 _)

/-- Settles O60: the cycle is the store of PAYLOAD_LEN, which keeps the legal states by `legalIsKept`; with a value other
than TX_COUNT it ends R50 item 5, so the next cycle faults. -/
theorem lengthMayChangeInDone : Obligations.LengthMayChangeInDone := by
  intro s d hl h50 hs hr hrow
  obtain ⟨hw, -⟩ := (legal_iff s).1 hl
  have hstep := step_of_wrPayloadLen hw h50 ((active_eq_false_iff s).2 (.inr (.inl hs))) hr hrow
  obtain ⟨hlegal, hR50⟩ := legalIsKept s _ hl hstep
  refine ⟨_, hstep, hlegal, hs, rfl, rfl, fun heq => hR50 fun _ e he => ?_, fun hne hrt => ?_⟩
  · cases hrow.symm.trans he
    exact heq
  · refine step_of_not_R50 hw hrt fun ⟨_, hdone⟩ => ?_
    obtain ⟨-, hcount⟩ := hdone hs
    exact hne hcount.symm

end Sys2Proof.Machine
end

section
/-! Errors (spec/60_exceptions.md): how a cycle enters ERROR and which cause it raises (R251, R258, R259), how ERROR is
left (R261), and the deadline, by what STAGE_CYCLES counts (R254). -/

namespace Sys2Proof.Machine

/-! ### The cycle of an ACTIVE state -/

/-- R40, R180: in an ACTIVE state the BUS row leaves the engine the start state with another host's side. -/
theorem BusMove.eq_withHost {s t : State} (h : BusMove (s.withRdata 0) t) (ha : s.active = true) :
    ∃ ev en rd, t = s.withHost ev en rd s.inputs :=
  ⟨_, _, _, h.active ha⟩

/-- R180: the cycle of an ACTIVE state is ABORT's error entry, or the STEP row on the start state with another host's
side. -/
theorem CycleMove.cases_of_active {s v : State} (h : CycleMove s v) (ha : s.active = true) :
    (s.abortsNow = true ∧ v = s.endCycle ((s.withHost s.events s.irqEn 0 s.inputs).raiseError .cancelled)) ∨
    (s.abortsNow = false ∧ ∃ ev en rd u, EngineMove s (s.withHost ev en rd s.inputs) u ∧ v = s.endCycle u) := by
  cases h with
  | abort hab => exact .inl ⟨hab, rfl⟩
  | rows t u hab hp hb he =>
    obtain ⟨ev, en, rd, rfl⟩ := hb.eq_withHost ha
    exact .inr ⟨hab, ev, en, rd, u, he, rfl⟩

theorem stage_of_rxReady {s : State} (h : s.rxReady = true) : ∃ g : Stage, s.state = g.state := by
  obtain hs | hs | hs := (rxReady_iff s).1 h
  · exact ⟨.ready, hs⟩
  · exact ⟨.trigger, hs⟩
  · exact ⟨.ack, hs⟩

theorem rxReady_of_stage {s : State} {g : Stage} (hs : s.state = g.state) : s.rxReady = true := by
  rw [rxReady_iff, hs]
  cases g <;> simp [Stage.state]

/-- An AWAIT state is ACTIVE. -/
theorem rxReady_active {s : State} (h : s.rxReady = true) : s.active = true := by
  obtain ⟨g, hs⟩ := stage_of_rxReady h
  exact stage_active hs

/-- R183: ABORT acts in an ACTIVE state only. -/
theorem abortsNow_active {s : State} (h : s.abortsNow = true) : s.active = true := by
  obtain ⟨-, -, ⟨-, ha, -⟩ | ⟨hno, -⟩⟩ := busPhase_cases s
  · exact ha
  · simp [h] at hno

/-! ### Which cause a cycle raises -/

/-- R259 below reset: the cause that the cycle of an ACTIVE state raises, if it raises one. -/
def State.errorNow (s : State) : Option ErrCause :=
  if s.abortsNow then some .cancelled
  else if s.rxReady then
    if s.input.rxErr then some .rxError else if s.deadlinePassed then some .deadlineExceeded else none
  else if s.sending && s.input.txErr then some .txError
  else none

section
variable {s : State}

/-- R183, R259: ABORT comes first. -/
theorem errorNow_of_abort (hab : s.abortsNow = true) : s.errorNow = some .cancelled := if_pos hab

/-- R252, R259: `rx_err` in an AWAIT state. -/
theorem errorNow_of_rxErr (hab : s.abortsNow = false) (hrx : s.rxReady = true) (he : s.input.rxErr = true) :
    s.errorNow = some .rxError := by
  simp [State.errorNow, hab, hrx, he]

/-- R254, R259: the deadline, after `rx_err`. -/
theorem errorNow_of_deadline (hab : s.abortsNow = false) (hrx : s.rxReady = true) (he : s.input.rxErr = false)
    (hd : s.deadlinePassed = true) : s.errorNow = some .deadlineExceeded := by
  simp [State.errorNow, hab, hrx, he, hd]

/-- R135: an AWAIT state scans. -/
theorem errorNow_of_scanning (hab : s.abortsNow = false) (hrx : s.rxReady = true) (he : s.input.rxErr = false)
    (hd : s.deadlinePassed = false) : s.errorNow = none := by
  simp [State.errorNow, hab, hrx, he, hd]

/-- R253, R259: `tx_err` in a SEND state. -/
theorem errorNow_of_txErr (hab : s.abortsNow = false) (hs : s.sending = true) (he : s.input.txErr = true) :
    s.errorNow = some .txError := by
  simp [State.errorNow, hab, rxReady_of_sending hs, hs, he]

/-- R253: nothing else can go wrong in a SEND state. -/
theorem errorNow_of_sending (hab : s.abortsNow = false) (hs : s.sending = true) (he : s.input.txErr = false) :
    s.errorNow = none := by
  simp [State.errorNow, hab, rxReady_of_sending hs, he]

end

/-- R258: the cycle from `s` ends with the error entry of cause `c`, on the start state with another host's side. -/
def Raises (s : State) (c : ErrCause) (v : State) : Prop :=
  ∃ ev en rd, v = s.endCycle ((s.withHost ev en rd s.inputs).raiseError c)

theorem Raises.state_errCause {s v : State} {c : ErrCause} (h : Raises s c v) :
    v.state = .error ∧ v.errCause = c.code := by
  obtain ⟨ev, en, rd, rfl⟩ := h
  exact ⟨rfl, rfl⟩

/-- How the cycle of an ACTIVE state from `s` to `v` ends: with the error that `errorNow` says, or not in ERROR. -/
inductive ErrorOutcome (s v : State) : Prop
  | raises (c : ErrCause) (hc : s.errorNow = some c) (h : Raises s c v)
  | goesOn (hn : s.errorNow = none) (h : v.state ≠ .error)

/-- R259: the STEP row of an ACTIVE state raises what `errorNow` says, and nothing else takes it to ERROR. -/
theorem EngineMove.errorOutcome {s u : State} {ev en : BitVec 6} {rd : Word}
    (h : EngineMove s (s.withHost ev en rd s.inputs) u) (ha : s.active = true) (hab : s.abortsNow = false) :
    ErrorOutcome s (s.endCycle u) := by
  obtain ⟨-, -, hlive⟩ := (active_iff s).1 ha
  have sends (hs : s.state = .sendLength ∨ s.state = .sendBody) : s.sending = true := (sending_iff s).2 hs
  cases h with
  | idle hi => simp [hi] at ha
  | rxError g hs he => exact .raises _ (errorNow_of_rxErr hab (rxReady_of_stage hs) he) ⟨_, _, _, rfl⟩
  | deadline g hs he hd => exact .raises _ (errorNow_of_deadline hab (rxReady_of_stage hs) he hd) ⟨_, _, _, rfl⟩
  | quiet g hs he hd | scan g hs he hd =>
    exact .goesOn (errorNow_of_scanning hab (rxReady_of_stage hs) he hd) hlive
  | found g hs he hd =>
    refine .goesOn (errorNow_of_scanning hab (rxReady_of_stage hs) he hd) ?_
    rw [endCycle_state, stageExit_state]
    cases g <;> nofun
  | txError hs he => exact .raises _ (errorNow_of_txErr hab hs he) ⟨_, _, _, rfl⟩
  | txWait hs he => exact .goesOn (errorNow_of_sending hab hs he) hlive
  | lengthByte hs hd he => exact .goesOn (errorNow_of_sending hab (sends (.inl hs)) he) hlive
  | lengthDrained hs hd he => exact .goesOn (errorNow_of_sending hab (sends (.inl hs)) he) nofun
  | bodyByte hs hd he => exact .goesOn (errorNow_of_sending hab (sends (.inr hs)) he) hlive
  | bodyDrained hs hd he => exact .goesOn (errorNow_of_sending hab (sends (.inr hs)) he) nofun

/-- R259: the cycle of an ACTIVE state raises what `errorNow` says, and ends in ERROR in no other way. -/
theorem CycleMove.errorOutcome {s v : State} (h : CycleMove s v) (ha : s.active = true) : ErrorOutcome s v := by
  obtain ⟨hab, rfl⟩ | ⟨hab, ev, en, rd, u, he, rfl⟩ := h.cases_of_active ha
  · exact .raises _ (errorNow_of_abort hab) ⟨_, _, _, rfl⟩
  · exact he.errorOutcome ha hab

/-- Settles O50: each clause is one value of `errorNow`. -/
theorem errorPriority : Obligations.ErrorPriority := by
  intro s t h hr
  obtain ⟨-, ⟨hrst, -⟩ | ⟨-, -, hmove⟩⟩ := step_next h
  · simp [hr] at hrst
  have raises {c : ErrCause} (ha : s.active = true) (hc : s.errorNow = some c) :
      t.state = .error ∧ t.errCause = c.code := by
    obtain ⟨c', hc', hraise⟩ | ⟨hn, -⟩ := hmove.errorOutcome ha
    · cases hc'.symm.trans hc
      exact hraise.state_errCause
    · cases hn.symm.trans hc
  have goesOn (ha : s.active = true) (hn : s.errorNow = none) : t.state ≠ .error := by
    obtain ⟨c, hc, -⟩ | ⟨-, hlive⟩ := hmove.errorOutcome ha
    · cases hc.symm.trans hn
    · exact hlive
  refine ⟨fun hab => ?_, fun hab hrx he => ?_, fun hab hs he => ?_, fun hab hrx he hset hpast => ?_,
    fun hab hrx he hin => ?_, fun hab hs he => ?_⟩
  · exact raises (abortsNow_active hab) (errorNow_of_abort hab)
  · exact raises (rxReady_active hrx) (errorNow_of_rxErr hab hrx he)
  · exact raises (sending_active hs) (errorNow_of_txErr hab hs he)
  · have hd : s.deadlinePassed = true := (deadlinePassed_eq_true_iff s).2 ⟨hset, hpast⟩
    exact raises (rxReady_active hrx) (errorNow_of_deadline hab hrx he hd)
  · have hd : s.deadlinePassed = false := (deadlinePassed_eq_false_iff s).2 hin
    exact goesOn (rxReady_active hrx) (errorNow_of_scanning hab hrx he hd)
  · exact goesOn (sending_active hs) (errorNow_of_sending hab hs he)

/-! ### What an error entry saves -/

/-- R256: of the BUS rows only a refused START enters ERROR. -/
theorem BusMove.eq_raiseError {s t : State} (h : BusMove s t) (hs : s.state ≠ .error) (ht : t.state = .error) :
    t = s.raiseError .payloadTooLarge := by
  cases h with
  | tooLarge => rfl
  | start | clear => cases ht
  | _ => exact absurd ht hs

/-- R258: a cycle enters ERROR by an error entry and in no other way. -/
theorem CycleMove.raises_of_error {s v : State} (h : CycleMove s v) (hs : s.state ≠ .error)
    (hv : v.state = .error) : ∃ c, Raises s c v := by
  cases ha : s.active with
  | true =>
    obtain ⟨c, -, hraise⟩ | ⟨-, hlive⟩ := h.errorOutcome ha
    · exact ⟨c, hraise⟩
    · exact absurd hv hlive
  | false =>
    cases h with
    | abort hab hyes => simp [ha] at hyes
    | rows t u hab hp hb he =>
      cases he.eq_of_idle ha
      cases hb.eq_raiseError hs hv
      exact ⟨.payloadTooLarge, s.events, s.irqEn, 0, rfl⟩

/-- R251: the causes are 1 to 5. -/
theorem errCause_code_bounds (c : ErrCause) : 1 ≤ c.code.toNat ∧ c.code.toNat ≤ 5 := by
  cases c <;> decide

/-- R36, R258: the ERROR event is EVENTS bit 5. -/
theorem getLsbD_error_event (ev : BitVec 6) : (ev ||| Event.error.mask).getLsbD 5 = true := by
  simp [Event.mask]

/-- Settles O49: the cycle ends with an error entry on the start state, which the host's side does not change. -/
theorem errorEntrySavesState : Obligations.ErrorEntrySavesState := by
  intro s t h hs ht
  obtain ⟨-, ⟨-, rfl⟩ | ⟨-, -, hmove⟩⟩ := step_next h
  · cases ht
  · obtain ⟨c, ev, en, rd, rfl⟩ := hmove.raises_of_error hs ht
    obtain ⟨hlo, hhi⟩ := errCause_code_bounds c
    exact ⟨rfl, hlo, hhi, rfl, getLsbD_error_event ev, rfl, rfl, rfl, rfl, rfl, rfl⟩

/-! ### ERROR is left by CLEAR and by reset -/

theorem whileIdle_state {s : State} {f : State → State} (hf : (f s).state = s.state) :
    (s.whileIdle f).state = s.state := by
  rw [State.whileIdle, apply_ite State.state, hf, ite_self]

/-- R212: a write row is WR_CTRL, or leaves STATE as it is. -/
theorem writeRow_state (off : BitVec 8) (d : Word) (s : State) :
    writeRow off d = .wrCtrl d ∨ ∃ t, exec (writeRow off d) s = .next t ∧ t.state = s.state := by
  unfold writeRow
  split
  case h_2 => exact .inl rfl
  case h_4 | h_5 | h_6 | h_7 | h_8 => exact .inr ⟨_, rfl, whileIdle_state rfl⟩
  all_goals exact .inr ⟨_, rfl, rfl⟩

/-- R212: only WR_CTRL moves STATE in the BUS phase. -/
theorem busPhase_state {s t : State} (h : (s.withRdata 0).busPhase s.busRow? = .next t) (hne : t.state ≠ s.state) :
    ∃ d, s.busRow? = some (.wrCtrl d) ∧ t = (s.withRdata 0).command d := by
  cases hen : s.input.busEn with
  | false =>
    rw [busRow?_of_quiet hen] at h
    cases h
    exact absurd rfl hne
  | true =>
    obtain ⟨off, d, hrow⟩ := decodeBus_portWord s.input
    rw [busRow?_of_busEn hen, hrow] at h ⊢
    cases hwe : s.input.busWe with
    | false =>
      rw [hwe, if_neg Bool.false_ne_true] at h
      obtain ⟨v, -, hread⟩ := exec_readRow off d s
      cases h.symm.trans (hread 0)
      exact absurd rfl hne
    | true =>
      rw [hwe, if_pos rfl] at h
      obtain hctrl | ⟨t', ht', hst⟩ := writeRow_state off d (s.withRdata 0)
      · rw [hctrl] at h
        cases h
        exact ⟨d, congrArg some hctrl, rfl⟩
      · cases h.symm.trans ht'
        exact absurd hst hne

/-- R184, R261: in ERROR, WR_CTRL without CLEAR does nothing. -/
theorem command_of_error {s : State} {d : Word} (hs : s.state = .error) (hd : d.getLsbD 2 = false) :
    s.command d = s := by
  have hnone : exec (.wrCtrl d) s = .next s :=
    ctrlWithoutCommand d s (fun hinit => by cases hs.symm.trans hinit)
      (fun ha => absurd hs ((active_iff s).1 ha).2.2) (fun _ => hd)
  exact Host.Outcome.next.inj ((exec_wrCtrl d s).symm.trans hnone)

/-- R261: in ERROR a BUS row is CLEAR's, or keeps the record of the error. -/
theorem BusMove.of_error {s t : State} (h : BusMove s t) (hs : s.state = .error) :
    t = s.cmdClear ∨
      (t.state = .error ∧ t.errCause = s.errCause ∧ t.errState = s.errState ∧ t.scanCount = s.scanCount ∧
        t.diverged = s.diverged ∧ t.stageCycles = s.stageCycles ∧ t.lenIdx = s.lenIdx ∧ t.txCount = s.txCount) := by
  cases h with
  | start hinit | tooLarge hinit => cases hinit.symm.trans hs
  | clear => exact .inl rfl
  | _ => exact .inr ⟨hs, rfl, rfl, rfl, rfl, rfl, rfl, rfl⟩

/-- Settles O51: in ERROR the STEP row does nothing, and the BUS phase keeps the record or is CLEAR's. -/
theorem errorsDoNotNest : Obligations.ErrorsDoNotNest := by
  intro s t h hs
  have hi : s.active = false := (active_eq_false_iff s).2 (.inr (.inr hs))
  obtain ⟨-, ⟨hr, rfl⟩ | ⟨-, -, hmove⟩⟩ := step_next h
  · exact .inr ⟨rfl, .inl hr⟩
  cases hmove with
  | abort hab ha => simp [hi] at ha
  | rows m u hab hp hb he =>
    cases he.eq_of_idle hi
    obtain rfl | hkept := hb.of_error hs
    · obtain ⟨d, hrow, hcommand⟩ := busPhase_state hp (by simp [hs])
      refine .inr ⟨rfl, .inr ⟨d, hrow, ?_⟩⟩
      by_contra hd
      have hstays := command_of_error (s := s.withRdata 0) hs (Bool.eq_false_of_not_eq_true hd)
      cases (congrArg State.state (hcommand.trans hstays)).trans hs
    · exact .inl hkept

/-! ### The deadline -/

/-- A stage's match leaves the stage. -/
theorem stage_ne_nextState (g : Stage) : g.state ≠ g.nextState := by
  cases g <;> nofun

/-- R100, R135: what a STEP row in an ACTIVE state makes of STAGE_CYCLES where it ends in stage `g`: 0 on entry, and one
more in a cycle of the stage that does not pass the deadline. -/
theorem EngineMove.stageCycles {s t u : State} {g : Stage} (h : EngineMove s t u) (ha : s.active = true)
    (hst : t.state = s.state) (hu : u.state = g.state) :
    (s.state ≠ g.state ∧ u.stageCycles = 0) ∨
    (s.state = g.state ∧ t.deadlinePassed = false ∧ u.stageCycles = satInc t.stageCycles) := by
  have moved {q : SessionState} (hs : s.state = q) (hq : q ≠ u.state) : s.state ≠ g.state := by
    rw [hs, ← hu]; exact hq
  have sends {p : Prop} (hs : s.sending = true) (hu : s.state = g.state) : p := by
    simp [sending_of_stage hu] at hs
  cases h with
  | idle hi => simp [hi] at ha
  | rxError | deadline | txError => cases g <;> cases hu
  | quiet g' hs he hd | scan g' hs he hd => exact .inr ⟨hst.symm.trans hu, hd, rfl⟩
  | found g' hs =>
    refine .inl ⟨moved hs (by rw [stageExit_state]; exact stage_ne_nextState g'), ?_⟩
    rw [stageExit_state] at hu
    cases g' with
    | ready => rfl
    | trigger | ack => cases g <;> cases hu
  | txWait hs => exact sends hs (hst.symm.trans hu)
  | lengthByte hs | bodyByte hs => exact sends ((sending_iff s).2 (by simp [hs])) (hst.symm.trans hu)
  | lengthDrained hs => exact .inl ⟨moved hs nofun, rfl⟩
  | bodyDrained => cases g <;> cases hu

/-- R100, R135: a cycle that ends in a stage has entered it, with STAGE_CYCLES at 0, or was a cycle of it that did not
pass the deadline, and is counted. -/
theorem CycleMove.stageCycles {s v : State} {g : Stage} (h : CycleMove s v) (hv : v.state = g.state) :
    (s.state ≠ g.state ∧ v.stageCycles = 0) ∨
    (s.state = g.state ∧ s.deadlinePassed = false ∧ v.stageCycles = satInc s.stageCycles) := by
  cases ha : s.active with
  | true =>
    obtain ⟨-, rfl⟩ | ⟨-, ev, en, rd, u, he, rfl⟩ := h.cases_of_active ha
    · cases g <;> cases hv
    · exact he.stageCycles ha rfl hv
  | false =>
    cases h with
    | abort hab hyes => simp [ha] at hyes
    | rows t u hab hp hb he =>
      cases he.eq_of_idle ha
      cases hb.eq_beginSession ha (stage_active hv)
      exact .inl ⟨fun hs => by simp [stage_active hs] at ha, rfl⟩

/-- R254: while the deadline is not passed, counting a cycle is exact and reaches the deadline at most. -/
theorem satInc_le_deadline {s : State} (hd : s.deadlinePassed = false) (hset : s.deadline ≠ 0) :
    (satInc s.stageCycles).toNat = s.stageCycles.toNat + 1 ∧ s.stageCycles.toNat + 1 ≤ s.deadline.toNat := by
  obtain hzero | hlt := (deadlinePassed_eq_false_iff s).1 hd
  · exact absurd hzero hset
  · have hlt : s.stageCycles.toNat < s.deadline.toNat := hlt
    have hbound := s.deadline.isLt
    rw [satInc_toNat]
    omega

/-- Settles O52: a stage is entered with STAGE_CYCLES at 0, and its cycles count up to the deadline. -/
theorem deadlineBoundKept : Obligations.DeadlineBoundKept := by
  intro s t _ h hrx hset
  obtain ⟨g, hg⟩ := stage_of_rxReady hrx
  obtain ⟨-, ⟨-, rfl⟩ | ⟨-, -, hmove⟩⟩ := step_next h
  · cases hrx
  · obtain ⟨-, hzero⟩ | ⟨hs, hd, hcount⟩ := hmove.stageCycles hg
    · rw [hzero]
      exact Nat.zero_le _
    · obtain ⟨-, -, hdeadline, -⟩ := hmove.sessionData_of_active (stage_active hs)
      rw [hdeadline] at hset ⊢
      obtain ⟨hexact, hle⟩ := satInc_le_deadline hd hset
      rw [hcount, hexact]
      exact hle

/-- R254: a step that stays in a stage with a deadline is counted, and was not the one that the deadline ends. -/
theorem step_stageCycles_of_stays {s t : State} {g : Stage} (h : step s = .next t) (hs : s.state = g.state)
    (ht : t.state = g.state) (hset : s.deadline ≠ 0) :
    t.deadline = s.deadline ∧ t.stageCycles.toNat = s.stageCycles.toNat + 1 ∧
      s.stageCycles.toNat + 1 ≤ s.deadline.toNat := by
  obtain ⟨-, ⟨-, rfl⟩ | ⟨-, -, hmove⟩⟩ := step_next h
  · cases g <;> cases ht
  · obtain ⟨hne, -⟩ | ⟨-, hd, hcount⟩ := hmove.stageCycles ht
    · exact absurd hs hne
    · obtain ⟨-, -, hdeadline, -⟩ := hmove.sessionData_of_active (stage_active hs)
      rw [hcount]
      exact ⟨hdeadline, satInc_le_deadline hd hset⟩

/-- A legal state in a stage completes its cycle, and legally. -/
theorem step_of_stage {s : State} {g : Stage} (hl : s.legal = true) (hs : s.state = g.state) :
    ∃ t, step s = .next t ∧ t.legal = true := by
  obtain ⟨hw, hcore, -⟩ := (legal_iff s).1 hl
  obtain ⟨-, hdone, -⟩ := (active_iff s).1 (stage_active hs)
  obtain ⟨t, ht⟩ := legalStatesGoOn s hw (R50_of_not_done hcore hdone)
  obtain ⟨hlegal, -⟩ := legalIsKept s t hl ht
  exact ⟨t, ht, hlegal⟩

theorem run_succ_of_step {s t : State} (h : step s = .next t) (k : Nat) :
    Host.Core.run Sys2Proof.core (k + 1) s = Host.Core.run Sys2Proof.core k t := by
  have hcore : Sys2Proof.core.step s = .next t := h
  simp only [Host.Core.run, hcore]

/-- Settles O53, by induction on the number of steps: each step leaves the stage or uses up one of the
`DEADLINE - STAGE_CYCLES` cycles still to come. -/
theorem deadlineEndsStage : Obligations.DeadlineEndsStage := by
  intro n
  induction n with
  | zero =>
    intro s g _ _ _ hle hlt
    exact absurd hle (Nat.not_le.2 hlt)
  | succ n ih =>
    intro s g hl hs hset hle hlt
    obtain ⟨t, ht, hlegal⟩ := step_of_stage hl hs
    by_cases hstay : t.state = g.state
    · obtain ⟨hdeadline, hcount, hroom⟩ := step_stageCycles_of_stays ht hs hstay hset
      obtain ⟨k, hk, u, hrun, hout⟩ :=
        ih t g hlegal hstay (hdeadline ▸ hset) (by rw [hcount, hdeadline]; exact hroom)
          (by rw [hcount, hdeadline]; omega)
      exact ⟨k + 1, Nat.succ_le_succ hk, u, (run_succ_of_step ht k).trans hrun, hout⟩
    · exact ⟨1, Nat.le_add_left 1 n, t, run_succ_of_step ht 0, hstay⟩

end Sys2Proof.Machine
end

section
/-! Reset and the RX handshake (spec/70_reset_and_hazards.md): the reset state and its outputs (R280 to R282), and the
transport's duty to offer a byte until it is consumed (R284 item 2). -/

namespace Sys2Proof.Machine

/-! ### The RX handshake -/

/-- R9: the cycle after one that started in `s` samples the input that `s` holds for it. -/
@[simp] theorem endCycle_input (s t : State) : (s.endCycle t).input = s.nextInput := by
  rw [State.input, State.nextInput, endCycle_inputs, endCycle_cycle]
  rcases s.inputs with _ | ⟨_, _ | ⟨_, _⟩⟩ <;> rfl

/-- R46: a byte offered while `rx_ready` is 1 is consumed. -/
theorem rxByte?_of_rxReady {s : State} (hv : s.input.rxValid = true) (hr : s.rxReady = true) :
    s.rxByte? = some s.input.rxData := by
  simp [State.rxByte?, hv, hr]

/-- R46: no byte is consumed while `rx_ready` is 0. -/
theorem rxByte?_of_not_rxReady {s : State} (hr : s.rxReady = false) : s.rxByte? = none := by
  simp [State.rxByte?, hr]

/-- Settles O59: with `rx_ready` the cycle records the byte as consumed; without it the cycle consumes none, and the
duty is about the input that the next cycle samples. -/
theorem offeredByteIsNotLost : Obligations.OfferedByteIsNotLost := by
  intro s t hduty hv h
  obtain ⟨u, rfl, hrx, -⟩ := step_eq_endCycle h
  rw [endCycle_rxTaken, endCycle_input, hrx]
  cases hr : s.rxReady with
  | true => exact .inl (by rw [rxByte?_of_rxReady hv hr, Option.toList_some])
  | false => exact .inr ⟨by rw [rxByte?_of_not_rxReady hr, Option.toList_none, List.append_nil], hduty hv hr⟩

/-! ### The reset state -/

/-- R39, R280: STATUS reads 0 where the registers it shows hold their reset values. -/
theorem statusWord_eq_zero {s : State} (hstate : s.state = .init) (hdrain : s.drain = false) (hlen : s.lenIdx = 0)
    (hdiv : s.diverged = false) (hcause : s.errCause = 0) (herr : s.errState = .init) : s.statusWord = 0 := by
  rw [State.statusWord, State.active, hstate, hdrain, hlen, hdiv, hcause, herr]
  decide

/-- R41: with no event pending there is no interrupt. -/
theorem irq_of_no_event {s : State} (h : s.events = 0) : s.irq = false := by
  simp [State.irq, h]

/-- R280, R281: the state a reset cycle ends in. -/
def State.afterReset (s : State) : State := s.endCycle (s.resetRegs.withRdata s.rdataPort)

/-- R280: a reset cycle completes there, from any state of a build that R6 allows (log entry 8). -/
theorem step_eq_afterReset {s : State} (hw : s.cfg.wf = true) (hr : s.input.rst = true) : step s = .next s.afterReset :=
  step_of_rst hw hr

/-- R280: STATUS reads 0 after a reset cycle. -/
theorem afterReset_statusWord (s : State) : s.afterReset.statusWord = 0 :=
  statusWord_eq_zero rfl rfl rfl rfl rfl rfl

/-- R282: after a reset cycle every output port is 0, since INIT is idle and no event is pending. -/
theorem afterReset_outputs (s : State) :
    s.afterReset.rxReady = false ∧ s.afterReset.txValid = false ∧ s.afterReset.txData = 0 ∧
    s.afterReset.txFlush = false ∧ s.afterReset.irq = false ∧ s.afterReset.linkOwned = false ∧
    s.afterReset.handoff = false := by
  have hidle : s.afterReset.active = false := (active_eq_false_iff _).2 (.inl rfl)
  obtain ⟨hrx, hvalid, hflush, hlink⟩ := outputs_of_idle hidle
  exact ⟨hrx, hvalid, txData_of_not_txValid hvalid, hflush, irq_of_no_event rfl, hlink, rfl⟩

/-- Settles O39: the cycle ends in `afterReset`, whose registers are those of `resetRegs`. -/
theorem resetCycle : Obligations.ResetCycle := fun s hw hr =>
  ⟨s.afterReset, step_eq_afterReset hw hr, rfl, rfl, rfl, rfl, rfl, rfl, rfl, rfl, rfl, rfl, rfl, rfl, rfl, rfl,
    rfl, rfl, rfl, rfl, afterReset_statusWord s, afterReset_outputs s⟩

/-- Settles O40: each register by definition, and STATUS from the registers it shows. -/
theorem resetStateRegisters : Obligations.ResetStateRegisters :=
  ⟨rfl, rfl, rfl, rfl, rfl, rfl, rfl, rfl, rfl, rfl, rfl, rfl, rfl, rfl, rfl, rfl,
    statusWord_eq_zero rfl rfl rfl rfl rfl rfl⟩

end Sys2Proof.Machine
end
